-- ==== Sys2Proof/Word.lean ====
section
/-! DEFINITION. The two word types of the block: a byte is 8 bits and a word 16 bits (00_scope R7, R9). -/
namespace Sys2Proof

/-- An 8-bit register or a byte on the bus (R7, R9). -/
abbrev Byte := BitVec 8

/-- A 16-bit register, an address or a 16-bit immediate (R7, R9). -/
abbrev Word := BitVec 16

end Sys2Proof
end

