-- ==== Sys2Proof/Syntax.lean ====
section
/-! DEFINITION. The instructions: one constructor per mnemonic of spec/opcode_table.json, with the immediate as its only
argument; those with an immediate first, then the others, each group in the table's order (30_encoding R100, R101, R109, R110). -/
namespace Sys2Proof

/-- An instruction, or an entry of the primary table that is not one: PREFIX CB (R133) and the undefined opcodes (R135). -/
inductive Instr where
  /-- LD BC,d16 (R170). -/
  | ldBcD16 (v : Word)
  /-- LD B,d8 (R151). -/
  | ldBD8 (v : Byte)
  /-- LD (a16),SP (R171). -/
  | ldMemA16Sp (a : Word)
  /-- LD C,d8 (R151). -/
  | ldCD8 (v : Byte)
  /-- STOP and its ignored second byte (R262). -/
  | stop (x : Byte)
  /-- LD DE,d16 (R170). -/
  | ldDeD16 (v : Word)
  /-- LD D,d8 (R151). -/
  | ldDD8 (v : Byte)
  /-- JR e8 (R243). -/
  | jr (e : Byte)
  /-- LD E,d8 (R151). -/
  | ldED8 (v : Byte)
  /-- JR NZ,e8 (R244). -/
  | jrNz (e : Byte)
  /-- LD HL,d16 (R170). -/
  | ldHlD16 (v : Word)
  /-- LD H,d8 (R151). -/
  | ldHD8 (v : Byte)
  /-- JR Z,e8 (R244). -/
  | jrZ (e : Byte)
  /-- LD L,d8 (R151). -/
  | ldLD8 (v : Byte)
  /-- JR NC,e8 (R244). -/
  | jrNc (e : Byte)
  /-- LD SP,d16 (R170). -/
  | ldSpD16 (v : Word)
  /-- LD (HL),d8 (R154). -/
  | ldMemHlD8 (v : Byte)
  /-- JR C,e8 (R244). -/
  | jrC (e : Byte)
  /-- LD A,d8 (R151). -/
  | ldAD8 (v : Byte)
  /-- JP NZ,a16 (R241). -/
  | jpNz (a : Word)
  /-- JP a16 (R240). -/
  | jp (a : Word)
  /-- CALL NZ,a16 (R246). -/
  | callNz (a : Word)
  /-- ADD A,d8 (R181). -/
  | addAD8 (v : Byte)
  /-- JP Z,a16 (R241). -/
  | jpZ (a : Word)
  /-- CALL Z,a16 (R246). -/
  | callZ (a : Word)
  /-- CALL a16 (R245). -/
  | call (a : Word)
  /-- ADC A,d8 (R182). -/
  | adcAD8 (v : Byte)
  /-- JP NC,a16 (R241). -/
  | jpNc (a : Word)
  /-- One of the eleven undefined primary opcodes, with the byte fetched (R111, R135). -/
  | undefined (op : Byte)
  /-- CALL NC,a16 (R246). -/
  | callNc (a : Word)
  /-- SUB d8 (R183). -/
  | subD8 (v : Byte)
  /-- JP C,a16 (R241). -/
  | jpC (a : Word)
  /-- CALL C,a16 (R246). -/
  | callC (a : Word)
  /-- SBC A,d8 (R184). -/
  | sbcAD8 (v : Byte)
  /-- LDH (a8),A (R162). -/
  | ldhMemA8A (o : Byte)
  /-- AND d8 (R185). -/
  | andD8 (v : Byte)
  /-- ADD SP,e8 (R203). -/
  | addSpE8 (e : Byte)
  /-- LD (a16),A (R160). -/
  | ldMemA16A (a : Word)
  /-- XOR d8 (R186). -/
  | xorD8 (v : Byte)
  /-- LDH A,(a8) (R161). -/
  | ldhAMemA8 (o : Byte)
  /-- OR d8 (R187). -/
  | orD8 (v : Byte)
  /-- LD HL,SP+e8 (R173). -/
  | ldHlSpE8 (e : Byte)
  /-- LD A,(a16) (R159). -/
  | ldAMemA16 (a : Word)
  /-- CP d8 (R188). -/
  | cpD8 (v : Byte)
  /-- NOP (R260). -/
  | nop
  /-- LD (BC),A (R157). -/
  | ldMemBcA
  /-- INC BC (R200). -/
  | incBc
  /-- INC B (R190). -/
  | incB
  /-- DEC B (R191). -/
  | decB
  /-- RLCA (R213). -/
  | rlca
  /-- ADD HL,BC (R202). -/
  | addHlBc
  /-- LD A,(BC) (R155). -/
  | ldAMemBc
  /-- DEC BC (R201). -/
  | decBc
  /-- INC C (R190). -/
  | incC
  /-- DEC C (R191). -/
  | decC
  /-- RRCA (R214). -/
  | rrca
  /-- LD (DE),A (R158). -/
  | ldMemDeA
  /-- INC DE (R200). -/
  | incDe
  /-- INC D (R190). -/
  | incD
  /-- DEC D (R191). -/
  | decD
  /-- RLA (R215). -/
  | rla
  /-- ADD HL,DE (R202). -/
  | addHlDe
  /-- LD A,(DE) (R156). -/
  | ldAMemDe
  /-- DEC DE (R201). -/
  | decDe
  /-- INC E (R190). -/
  | incE
  /-- DEC E (R191). -/
  | decE
  /-- RRA (R216). -/
  | rra
  /-- LD (HL+),A (R165). -/
  | ldMemHlIncA
  /-- INC HL (R200). -/
  | incHl
  /-- INC H (R190). -/
  | incH
  /-- DEC H (R191). -/
  | decH
  /-- DAA (R194). -/
  | daa
  /-- ADD HL,HL (R202). -/
  | addHlHl
  /-- LD A,(HL+) (R167). -/
  | ldAMemHlInc
  /-- DEC HL (R201). -/
  | decHl
  /-- INC L (R190). -/
  | incL
  /-- DEC L (R191). -/
  | decL
  /-- CPL (R195). -/
  | cpl
  /-- LD (HL-),A (R166). -/
  | ldMemHlDecA
  /-- INC SP (R200). -/
  | incSp
  /-- INC (HL) (R192). -/
  | incMemHl
  /-- DEC (HL) (R193). -/
  | decMemHl
  /-- SCF (R196). -/
  | scf
  /-- ADD HL,SP (R202). -/
  | addHlSp
  /-- LD A,(HL-) (R168). -/
  | ldAMemHlDec
  /-- DEC SP (R201). -/
  | decSp
  /-- INC A (R190). -/
  | incA
  /-- DEC A (R191). -/
  | decA
  /-- CCF (R197). -/
  | ccf
  /-- LD B,B (R150). -/
  | ldBB
  /-- LD B,C (R150). -/
  | ldBC
  /-- LD B,D (R150). -/
  | ldBD
  /-- LD B,E (R150). -/
  | ldBE
  /-- LD B,H (R150). -/
  | ldBH
  /-- LD B,L (R150). -/
  | ldBL
  /-- LD B,(HL) (R152). -/
  | ldBMemHl
  /-- LD B,A (R150). -/
  | ldBA
  /-- LD C,B (R150). -/
  | ldCB
  /-- LD C,C (R150). -/
  | ldCC
  /-- LD C,D (R150). -/
  | ldCD
  /-- LD C,E (R150). -/
  | ldCE
  /-- LD C,H (R150). -/
  | ldCH
  /-- LD C,L (R150). -/
  | ldCL
  /-- LD C,(HL) (R152). -/
  | ldCMemHl
  /-- LD C,A (R150). -/
  | ldCA
  /-- LD D,B (R150). -/
  | ldDB
  /-- LD D,C (R150). -/
  | ldDC
  /-- LD D,D (R150). -/
  | ldDD
  /-- LD D,E (R150). -/
  | ldDE
  /-- LD D,H (R150). -/
  | ldDH
  /-- LD D,L (R150). -/
  | ldDL
  /-- LD D,(HL) (R152). -/
  | ldDMemHl
  /-- LD D,A (R150). -/
  | ldDA
  /-- LD E,B (R150). -/
  | ldEB
  /-- LD E,C (R150). -/
  | ldEC
  /-- LD E,D (R150). -/
  | ldED
  /-- LD E,E (R150). -/
  | ldEE
  /-- LD E,H (R150). -/
  | ldEH
  /-- LD E,L (R150). -/
  | ldEL
  /-- LD E,(HL) (R152). -/
  | ldEMemHl
  /-- LD E,A (R150). -/
  | ldEA
  /-- LD H,B (R150). -/
  | ldHB
  /-- LD H,C (R150). -/
  | ldHC
  /-- LD H,D (R150). -/
  | ldHD
  /-- LD H,E (R150). -/
  | ldHE
  /-- LD H,H (R150). -/
  | ldHH
  /-- LD H,L (R150). -/
  | ldHL
  /-- LD H,(HL) (R152). -/
  | ldHMemHl
  /-- LD H,A (R150). -/
  | ldHA
  /-- LD L,B (R150). -/
  | ldLB
  /-- LD L,C (R150). -/
  | ldLC
  /-- LD L,D (R150). -/
  | ldLD
  /-- LD L,E (R150). -/
  | ldLE
  /-- LD L,H (R150). -/
  | ldLH
  /-- LD L,L (R150). -/
  | ldLL
  /-- LD L,(HL) (R152). -/
  | ldLMemHl
  /-- LD L,A (R150). -/
  | ldLA
  /-- LD (HL),B (R153). -/
  | ldMemHlB
  /-- LD (HL),C (R153). -/
  | ldMemHlC
  /-- LD (HL),D (R153). -/
  | ldMemHlD
  /-- LD (HL),E (R153). -/
  | ldMemHlE
  /-- LD (HL),H (R153). -/
  | ldMemHlH
  /-- LD (HL),L (R153). -/
  | ldMemHlL
  /-- HALT (R261). -/
  | halt
  /-- LD (HL),A (R153). -/
  | ldMemHlA
  /-- LD A,B (R150). -/
  | ldAB
  /-- LD A,C (R150). -/
  | ldAC
  /-- LD A,D (R150). -/
  | ldAD
  /-- LD A,E (R150). -/
  | ldAE
  /-- LD A,H (R150). -/
  | ldAH
  /-- LD A,L (R150). -/
  | ldAL
  /-- LD A,(HL) (R152). -/
  | ldAMemHl
  /-- LD A,A (R150). -/
  | ldAA
  /-- ADD A,B (R181). -/
  | addAB
  /-- ADD A,C (R181). -/
  | addAC
  /-- ADD A,D (R181). -/
  | addAD
  /-- ADD A,E (R181). -/
  | addAE
  /-- ADD A,H (R181). -/
  | addAH
  /-- ADD A,L (R181). -/
  | addAL
  /-- ADD A,(HL) (R181). -/
  | addAMemHl
  /-- ADD A,A (R181). -/
  | addAA
  /-- ADC A,B (R182). -/
  | adcAB
  /-- ADC A,C (R182). -/
  | adcAC
  /-- ADC A,D (R182). -/
  | adcAD
  /-- ADC A,E (R182). -/
  | adcAE
  /-- ADC A,H (R182). -/
  | adcAH
  /-- ADC A,L (R182). -/
  | adcAL
  /-- ADC A,(HL) (R182). -/
  | adcAMemHl
  /-- ADC A,A (R182). -/
  | adcAA
  /-- SUB B (R183). -/
  | subB
  /-- SUB C (R183). -/
  | subC
  /-- SUB D (R183). -/
  | subD
  /-- SUB E (R183). -/
  | subE
  /-- SUB H (R183). -/
  | subH
  /-- SUB L (R183). -/
  | subL
  /-- SUB (HL) (R183). -/
  | subMemHl
  /-- SUB A (R183). -/
  | subA
  /-- SBC A,B (R184). -/
  | sbcAB
  /-- SBC A,C (R184). -/
  | sbcAC
  /-- SBC A,D (R184). -/
  | sbcAD
  /-- SBC A,E (R184). -/
  | sbcAE
  /-- SBC A,H (R184). -/
  | sbcAH
  /-- SBC A,L (R184). -/
  | sbcAL
  /-- SBC A,(HL) (R184). -/
  | sbcAMemHl
  /-- SBC A,A (R184). -/
  | sbcAA
  /-- AND B (R185). -/
  | andB
  /-- AND C (R185). -/
  | andC
  /-- AND D (R185). -/
  | andD
  /-- AND E (R185). -/
  | andE
  /-- AND H (R185). -/
  | andH
  /-- AND L (R185). -/
  | andL
  /-- AND (HL) (R185). -/
  | andMemHl
  /-- AND A (R185). -/
  | andA
  /-- XOR B (R186). -/
  | xorB
  /-- XOR C (R186). -/
  | xorC
  /-- XOR D (R186). -/
  | xorD
  /-- XOR E (R186). -/
  | xorE
  /-- XOR H (R186). -/
  | xorH
  /-- XOR L (R186). -/
  | xorL
  /-- XOR (HL) (R186). -/
  | xorMemHl
  /-- XOR A (R186). -/
  | xorA
  /-- OR B (R187). -/
  | orB
  /-- OR C (R187). -/
  | orC
  /-- OR D (R187). -/
  | orD
  /-- OR E (R187). -/
  | orE
  /-- OR H (R187). -/
  | orH
  /-- OR L (R187). -/
  | orL
  /-- OR (HL) (R187). -/
  | orMemHl
  /-- OR A (R187). -/
  | orA
  /-- CP B (R188). -/
  | cpB
  /-- CP C (R188). -/
  | cpC
  /-- CP D (R188). -/
  | cpD
  /-- CP E (R188). -/
  | cpE
  /-- CP H (R188). -/
  | cpH
  /-- CP L (R188). -/
  | cpL
  /-- CP (HL) (R188). -/
  | cpMemHl
  /-- CP A (R188). -/
  | cpA
  /-- RET NZ (R250). -/
  | retNz
  /-- POP BC (R176). -/
  | popBc
  /-- PUSH BC (R174). -/
  | pushBc
  /-- RST 00H (R249). -/
  | rst00
  /-- RET Z (R250). -/
  | retZ
  /-- RET (R247). -/
  | ret
  /-- The dispatch entry 0xCB: the byte after it is looked up in the extended table (R133). -/
  | prefixCb
  /-- RST 08H (R249). -/
  | rst08
  /-- RET NC (R250). -/
  | retNc
  /-- POP DE (R176). -/
  | popDe
  /-- PUSH DE (R174). -/
  | pushDe
  /-- RST 10H (R249). -/
  | rst10
  /-- RET C (R250). -/
  | retC
  /-- RETI (R248). -/
  | reti
  /-- RST 18H (R249). -/
  | rst18
  /-- POP HL (R176). -/
  | popHl
  /-- LD (C),A (R164). -/
  | ldMemCA
  /-- PUSH HL (R174). -/
  | pushHl
  /-- RST 20H (R249). -/
  | rst20
  /-- JP (HL) (R242). -/
  | jpHl
  /-- RST 28H (R249). -/
  | rst28
  /-- POP AF (R175). -/
  | popAf
  /-- LD A,(C) (R163). -/
  | ldAMemC
  /-- DI (R263). -/
  | di
  /-- PUSH AF (R174). -/
  | pushAf
  /-- RST 30H (R249). -/
  | rst30
  /-- LD SP,HL (R172). -/
  | ldSpHl
  /-- EI (R264). -/
  | ei
  /-- RST 38H (R249). -/
  | rst38
  /-- RLC B (R217). -/
  | rlcB
  /-- RLC C (R217). -/
  | rlcC
  /-- RLC D (R217). -/
  | rlcD
  /-- RLC E (R217). -/
  | rlcE
  /-- RLC H (R217). -/
  | rlcH
  /-- RLC L (R217). -/
  | rlcL
  /-- RLC (HL) (R217). -/
  | rlcMemHl
  /-- RLC A (R217). -/
  | rlcA
  /-- RRC B (R218). -/
  | rrcB
  /-- RRC C (R218). -/
  | rrcC
  /-- RRC D (R218). -/
  | rrcD
  /-- RRC E (R218). -/
  | rrcE
  /-- RRC H (R218). -/
  | rrcH
  /-- RRC L (R218). -/
  | rrcL
  /-- RRC (HL) (R218). -/
  | rrcMemHl
  /-- RRC A (R218). -/
  | rrcA
  /-- RL B (R219). -/
  | rlB
  /-- RL C (R219). -/
  | rlC
  /-- RL D (R219). -/
  | rlD
  /-- RL E (R219). -/
  | rlE
  /-- RL H (R219). -/
  | rlH
  /-- RL L (R219). -/
  | rlL
  /-- RL (HL) (R219). -/
  | rlMemHl
  /-- RL A (R219). -/
  | rlA
  /-- RR B (R220). -/
  | rrB
  /-- RR C (R220). -/
  | rrC
  /-- RR D (R220). -/
  | rrD
  /-- RR E (R220). -/
  | rrE
  /-- RR H (R220). -/
  | rrH
  /-- RR L (R220). -/
  | rrL
  /-- RR (HL) (R220). -/
  | rrMemHl
  /-- RR A (R220). -/
  | rrA
  /-- SLA B (R221). -/
  | slaB
  /-- SLA C (R221). -/
  | slaC
  /-- SLA D (R221). -/
  | slaD
  /-- SLA E (R221). -/
  | slaE
  /-- SLA H (R221). -/
  | slaH
  /-- SLA L (R221). -/
  | slaL
  /-- SLA (HL) (R221). -/
  | slaMemHl
  /-- SLA A (R221). -/
  | slaA
  /-- SRA B (R222). -/
  | sraB
  /-- SRA C (R222). -/
  | sraC
  /-- SRA D (R222). -/
  | sraD
  /-- SRA E (R222). -/
  | sraE
  /-- SRA H (R222). -/
  | sraH
  /-- SRA L (R222). -/
  | sraL
  /-- SRA (HL) (R222). -/
  | sraMemHl
  /-- SRA A (R222). -/
  | sraA
  /-- SWAP B (R223). -/
  | swapB
  /-- SWAP C (R223). -/
  | swapC
  /-- SWAP D (R223). -/
  | swapD
  /-- SWAP E (R223). -/
  | swapE
  /-- SWAP H (R223). -/
  | swapH
  /-- SWAP L (R223). -/
  | swapL
  /-- SWAP (HL) (R223). -/
  | swapMemHl
  /-- SWAP A (R223). -/
  | swapA
  /-- SRL B (R224). -/
  | srlB
  /-- SRL C (R224). -/
  | srlC
  /-- SRL D (R224). -/
  | srlD
  /-- SRL E (R224). -/
  | srlE
  /-- SRL H (R224). -/
  | srlH
  /-- SRL L (R224). -/
  | srlL
  /-- SRL (HL) (R224). -/
  | srlMemHl
  /-- SRL A (R224). -/
  | srlA
  /-- BIT 0,B (R225). -/
  | bit0B
  /-- BIT 0,C (R225). -/
  | bit0C
  /-- BIT 0,D (R225). -/
  | bit0D
  /-- BIT 0,E (R225). -/
  | bit0E
  /-- BIT 0,H (R225). -/
  | bit0H
  /-- BIT 0,L (R225). -/
  | bit0L
  /-- BIT 0,(HL) (R225). -/
  | bit0MemHl
  /-- BIT 0,A (R225). -/
  | bit0A
  /-- BIT 1,B (R225). -/
  | bit1B
  /-- BIT 1,C (R225). -/
  | bit1C
  /-- BIT 1,D (R225). -/
  | bit1D
  /-- BIT 1,E (R225). -/
  | bit1E
  /-- BIT 1,H (R225). -/
  | bit1H
  /-- BIT 1,L (R225). -/
  | bit1L
  /-- BIT 1,(HL) (R225). -/
  | bit1MemHl
  /-- BIT 1,A (R225). -/
  | bit1A
  /-- BIT 2,B (R225). -/
  | bit2B
  /-- BIT 2,C (R225). -/
  | bit2C
  /-- BIT 2,D (R225). -/
  | bit2D
  /-- BIT 2,E (R225). -/
  | bit2E
  /-- BIT 2,H (R225). -/
  | bit2H
  /-- BIT 2,L (R225). -/
  | bit2L
  /-- BIT 2,(HL) (R225). -/
  | bit2MemHl
  /-- BIT 2,A (R225). -/
  | bit2A
  /-- BIT 3,B (R225). -/
  | bit3B
  /-- BIT 3,C (R225). -/
  | bit3C
  /-- BIT 3,D (R225). -/
  | bit3D
  /-- BIT 3,E (R225). -/
  | bit3E
  /-- BIT 3,H (R225). -/
  | bit3H
  /-- BIT 3,L (R225). -/
  | bit3L
  /-- BIT 3,(HL) (R225). -/
  | bit3MemHl
  /-- BIT 3,A (R225). -/
  | bit3A
  /-- BIT 4,B (R225). -/
  | bit4B
  /-- BIT 4,C (R225). -/
  | bit4C
  /-- BIT 4,D (R225). -/
  | bit4D
  /-- BIT 4,E (R225). -/
  | bit4E
  /-- BIT 4,H (R225). -/
  | bit4H
  /-- BIT 4,L (R225). -/
  | bit4L
  /-- BIT 4,(HL) (R225). -/
  | bit4MemHl
  /-- BIT 4,A (R225). -/
  | bit4A
  /-- BIT 5,B (R225). -/
  | bit5B
  /-- BIT 5,C (R225). -/
  | bit5C
  /-- BIT 5,D (R225). -/
  | bit5D
  /-- BIT 5,E (R225). -/
  | bit5E
  /-- BIT 5,H (R225). -/
  | bit5H
  /-- BIT 5,L (R225). -/
  | bit5L
  /-- BIT 5,(HL) (R225). -/
  | bit5MemHl
  /-- BIT 5,A (R225). -/
  | bit5A
  /-- BIT 6,B (R225). -/
  | bit6B
  /-- BIT 6,C (R225). -/
  | bit6C
  /-- BIT 6,D (R225). -/
  | bit6D
  /-- BIT 6,E (R225). -/
  | bit6E
  /-- BIT 6,H (R225). -/
  | bit6H
  /-- BIT 6,L (R225). -/
  | bit6L
  /-- BIT 6,(HL) (R225). -/
  | bit6MemHl
  /-- BIT 6,A (R225). -/
  | bit6A
  /-- BIT 7,B (R225). -/
  | bit7B
  /-- BIT 7,C (R225). -/
  | bit7C
  /-- BIT 7,D (R225). -/
  | bit7D
  /-- BIT 7,E (R225). -/
  | bit7E
  /-- BIT 7,H (R225). -/
  | bit7H
  /-- BIT 7,L (R225). -/
  | bit7L
  /-- BIT 7,(HL) (R225). -/
  | bit7MemHl
  /-- BIT 7,A (R225). -/
  | bit7A
  /-- RES 0,B (R226). -/
  | res0B
  /-- RES 0,C (R226). -/
  | res0C
  /-- RES 0,D (R226). -/
  | res0D
  /-- RES 0,E (R226). -/
  | res0E
  /-- RES 0,H (R226). -/
  | res0H
  /-- RES 0,L (R226). -/
  | res0L
  /-- RES 0,(HL) (R226). -/
  | res0MemHl
  /-- RES 0,A (R226). -/
  | res0A
  /-- RES 1,B (R226). -/
  | res1B
  /-- RES 1,C (R226). -/
  | res1C
  /-- RES 1,D (R226). -/
  | res1D
  /-- RES 1,E (R226). -/
  | res1E
  /-- RES 1,H (R226). -/
  | res1H
  /-- RES 1,L (R226). -/
  | res1L
  /-- RES 1,(HL) (R226). -/
  | res1MemHl
  /-- RES 1,A (R226). -/
  | res1A
  /-- RES 2,B (R226). -/
  | res2B
  /-- RES 2,C (R226). -/
  | res2C
  /-- RES 2,D (R226). -/
  | res2D
  /-- RES 2,E (R226). -/
  | res2E
  /-- RES 2,H (R226). -/
  | res2H
  /-- RES 2,L (R226). -/
  | res2L
  /-- RES 2,(HL) (R226). -/
  | res2MemHl
  /-- RES 2,A (R226). -/
  | res2A
  /-- RES 3,B (R226). -/
  | res3B
  /-- RES 3,C (R226). -/
  | res3C
  /-- RES 3,D (R226). -/
  | res3D
  /-- RES 3,E (R226). -/
  | res3E
  /-- RES 3,H (R226). -/
  | res3H
  /-- RES 3,L (R226). -/
  | res3L
  /-- RES 3,(HL) (R226). -/
  | res3MemHl
  /-- RES 3,A (R226). -/
  | res3A
  /-- RES 4,B (R226). -/
  | res4B
  /-- RES 4,C (R226). -/
  | res4C
  /-- RES 4,D (R226). -/
  | res4D
  /-- RES 4,E (R226). -/
  | res4E
  /-- RES 4,H (R226). -/
  | res4H
  /-- RES 4,L (R226). -/
  | res4L
  /-- RES 4,(HL) (R226). -/
  | res4MemHl
  /-- RES 4,A (R226). -/
  | res4A
  /-- RES 5,B (R226). -/
  | res5B
  /-- RES 5,C (R226). -/
  | res5C
  /-- RES 5,D (R226). -/
  | res5D
  /-- RES 5,E (R226). -/
  | res5E
  /-- RES 5,H (R226). -/
  | res5H
  /-- RES 5,L (R226). -/
  | res5L
  /-- RES 5,(HL) (R226). -/
  | res5MemHl
  /-- RES 5,A (R226). -/
  | res5A
  /-- RES 6,B (R226). -/
  | res6B
  /-- RES 6,C (R226). -/
  | res6C
  /-- RES 6,D (R226). -/
  | res6D
  /-- RES 6,E (R226). -/
  | res6E
  /-- RES 6,H (R226). -/
  | res6H
  /-- RES 6,L (R226). -/
  | res6L
  /-- RES 6,(HL) (R226). -/
  | res6MemHl
  /-- RES 6,A (R226). -/
  | res6A
  /-- RES 7,B (R226). -/
  | res7B
  /-- RES 7,C (R226). -/
  | res7C
  /-- RES 7,D (R226). -/
  | res7D
  /-- RES 7,E (R226). -/
  | res7E
  /-- RES 7,H (R226). -/
  | res7H
  /-- RES 7,L (R226). -/
  | res7L
  /-- RES 7,(HL) (R226). -/
  | res7MemHl
  /-- RES 7,A (R226). -/
  | res7A
  /-- SET 0,B (R227). -/
  | set0B
  /-- SET 0,C (R227). -/
  | set0C
  /-- SET 0,D (R227). -/
  | set0D
  /-- SET 0,E (R227). -/
  | set0E
  /-- SET 0,H (R227). -/
  | set0H
  /-- SET 0,L (R227). -/
  | set0L
  /-- SET 0,(HL) (R227). -/
  | set0MemHl
  /-- SET 0,A (R227). -/
  | set0A
  /-- SET 1,B (R227). -/
  | set1B
  /-- SET 1,C (R227). -/
  | set1C
  /-- SET 1,D (R227). -/
  | set1D
  /-- SET 1,E (R227). -/
  | set1E
  /-- SET 1,H (R227). -/
  | set1H
  /-- SET 1,L (R227). -/
  | set1L
  /-- SET 1,(HL) (R227). -/
  | set1MemHl
  /-- SET 1,A (R227). -/
  | set1A
  /-- SET 2,B (R227). -/
  | set2B
  /-- SET 2,C (R227). -/
  | set2C
  /-- SET 2,D (R227). -/
  | set2D
  /-- SET 2,E (R227). -/
  | set2E
  /-- SET 2,H (R227). -/
  | set2H
  /-- SET 2,L (R227). -/
  | set2L
  /-- SET 2,(HL) (R227). -/
  | set2MemHl
  /-- SET 2,A (R227). -/
  | set2A
  /-- SET 3,B (R227). -/
  | set3B
  /-- SET 3,C (R227). -/
  | set3C
  /-- SET 3,D (R227). -/
  | set3D
  /-- SET 3,E (R227). -/
  | set3E
  /-- SET 3,H (R227). -/
  | set3H
  /-- SET 3,L (R227). -/
  | set3L
  /-- SET 3,(HL) (R227). -/
  | set3MemHl
  /-- SET 3,A (R227). -/
  | set3A
  /-- SET 4,B (R227). -/
  | set4B
  /-- SET 4,C (R227). -/
  | set4C
  /-- SET 4,D (R227). -/
  | set4D
  /-- SET 4,E (R227). -/
  | set4E
  /-- SET 4,H (R227). -/
  | set4H
  /-- SET 4,L (R227). -/
  | set4L
  /-- SET 4,(HL) (R227). -/
  | set4MemHl
  /-- SET 4,A (R227). -/
  | set4A
  /-- SET 5,B (R227). -/
  | set5B
  /-- SET 5,C (R227). -/
  | set5C
  /-- SET 5,D (R227). -/
  | set5D
  /-- SET 5,E (R227). -/
  | set5E
  /-- SET 5,H (R227). -/
  | set5H
  /-- SET 5,L (R227). -/
  | set5L
  /-- SET 5,(HL) (R227). -/
  | set5MemHl
  /-- SET 5,A (R227). -/
  | set5A
  /-- SET 6,B (R227). -/
  | set6B
  /-- SET 6,C (R227). -/
  | set6C
  /-- SET 6,D (R227). -/
  | set6D
  /-- SET 6,E (R227). -/
  | set6E
  /-- SET 6,H (R227). -/
  | set6H
  /-- SET 6,L (R227). -/
  | set6L
  /-- SET 6,(HL) (R227). -/
  | set6MemHl
  /-- SET 6,A (R227). -/
  | set6A
  /-- SET 7,B (R227). -/
  | set7B
  /-- SET 7,C (R227). -/
  | set7C
  /-- SET 7,D (R227). -/
  | set7D
  /-- SET 7,E (R227). -/
  | set7E
  /-- SET 7,H (R227). -/
  | set7H
  /-- SET 7,L (R227). -/
  | set7L
  /-- SET 7,(HL) (R227). -/
  | set7MemHl
  /-- SET 7,A (R227). -/
  | set7A
  deriving DecidableEq, Repr

end Sys2Proof
end

