-- ==== Sys2Proof/WellFormed.lean ====
section
/-! DEFINITION. When a term of Instr is an instruction of the hardware. The operand types carry every field's range; the one
check left is that an undefined opcode is one of the eleven (30_encoding R111). -/
namespace Sys2Proof

/-- The eleven undefined primary opcodes (R111). -/
def undefinedOpcodes : List Byte :=
  [0xD3#8, 0xDB#8, 0xDD#8, 0xE3#8, 0xE4#8, 0xEB#8, 0xEC#8, 0xED#8, 0xF4#8, 0xFC#8, 0xFD#8]

/-- Whether a term is an instruction the hardware has (R111, R112). -/
def Instr.wellFormed : Instr → Bool
  | .undefined op => undefinedOpcodes.contains op
  | _ => true

end Sys2Proof
end

