-- ==== Sys2Proof/Decode.lean ====
section
/-! DEFINITION. The instruction table: descriptors (30_encoding R114), the primary and extended tables as 16 rows of 16 (R109,
R110, R117), the decoder, and the encoder written from the same listing. -/
namespace Sys2Proof

/-- v[15:8] (R9). -/
def hiByte (v : Word) : Byte := v.extractLsb' 8 8

/-- v[7:0] (R9). -/
def loByte (v : Word) : Byte := v.extractLsb' 0 8

/-- hi : lo (R9). -/
def mkWord (hi lo : Byte) : Word := hi ++ lo

/-- What a table entry's bytes become: an instruction without an immediate, with a byte, or with a little-endian word (R101, R108). -/
inductive Form where
  | plain (i : Instr)
  | byte (f : Byte → Instr)
  | word (f : Word → Instr)

/-- What the listing says of one flag: unchanged, cleared, set, or computed by the instruction's rule (R109). -/
inductive FlagEffect where
  | keep | clear | set | computed
  deriving DecidableEq, Repr

/-- The listing's Z N H C column (R109). -/
structure FlagEffects where
  z : FlagEffect
  n : FlagEffect
  h : FlagEffect
  c : FlagEffect
  deriving DecidableEq, Repr

/-- The instruction descriptor (R114), with the listing's flags column (R109). -/
structure Descriptor where
  /-- The byte looked up in its table. -/
  opcode : Byte
  mnemonic : String
  /-- Total byte length including opcode and 0xCB. -/
  length : Nat
  /-- Base clock-cycle cost. -/
  base : Nat
  /-- Extra cost applied only when a condition is taken; 0 where there is none. -/
  extra : Nat
  flags : FlagEffects
  /-- Names the behaviour: the instruction whose meaning Machine/Dispatch gives. -/
  form : Form

/-! The flags columns that occur. K stands for an unchanged flag. -/

/-- - - - - -/
def fxNone : FlagEffects := ⟨.keep, .keep, .keep, .keep⟩

/-- 0 0 0 C -/
def fx000C : FlagEffects := ⟨.clear, .clear, .clear, .computed⟩

/-- Z 0 1 0 -/
def fxZ010 : FlagEffects := ⟨.computed, .clear, .set, .clear⟩

/-- Z 1 H C -/
def fxZ1HC : FlagEffects := ⟨.computed, .set, .computed, .computed⟩

/-- - 0 0 1 -/
def fxK001 : FlagEffects := ⟨.keep, .clear, .clear, .set⟩

/-- Z 0 H - -/
def fxZ0HK : FlagEffects := ⟨.computed, .clear, .computed, .keep⟩

/-- - 0 0 C -/
def fxK00C : FlagEffects := ⟨.keep, .clear, .clear, .computed⟩

/-- Z 0 H C -/
def fxZ0HC : FlagEffects := ⟨.computed, .clear, .computed, .computed⟩

/-- - 1 1 - -/
def fxK11K : FlagEffects := ⟨.keep, .set, .set, .keep⟩

/-- Z N H C -/
def fxZNHC : FlagEffects := ⟨.computed, .computed, .computed, .computed⟩

/-- - 0 H C -/
def fxK0HC : FlagEffects := ⟨.keep, .clear, .computed, .computed⟩

/-- Z - 0 C -/
def fxZK0C : FlagEffects := ⟨.computed, .keep, .clear, .computed⟩

/-- Z 0 0 0 -/
def fxZ000 : FlagEffects := ⟨.computed, .clear, .clear, .clear⟩

/-- Z 1 H - -/
def fxZ1HK : FlagEffects := ⟨.computed, .set, .computed, .keep⟩

/-- 0 0 H C -/
def fx00HC : FlagEffects := ⟨.clear, .clear, .computed, .computed⟩

/-- Z 0 0 C -/
def fxZ00C : FlagEffects := ⟨.computed, .clear, .clear, .computed⟩

/-- Z 0 0 - -/
def fxZ00K : FlagEffects := ⟨.computed, .clear, .clear, .keep⟩

/-- Primary table, opcodes 0x00 to 0x0F (R109, R111). -/
def primaryRow0 : List (Option Descriptor) := [
  some ⟨0x00#8, "NOP", 1, 4, 0, fxNone, .plain .nop⟩,
  some ⟨0x01#8, "LD BC,d16", 3, 12, 0, fxNone, .word .ldBcD16⟩,
  some ⟨0x02#8, "LD (BC),A", 1, 8, 0, fxNone, .plain .ldMemBcA⟩,
  some ⟨0x03#8, "INC BC", 1, 8, 0, fxNone, .plain .incBc⟩,
  some ⟨0x04#8, "INC B", 1, 4, 0, fxZ0HK, .plain .incB⟩,
  some ⟨0x05#8, "DEC B", 1, 4, 0, fxZ1HK, .plain .decB⟩,
  some ⟨0x06#8, "LD B,d8", 2, 8, 0, fxNone, .byte .ldBD8⟩,
  some ⟨0x07#8, "RLCA", 1, 4, 0, fx000C, .plain .rlca⟩,
  some ⟨0x08#8, "LD (a16),SP", 3, 20, 0, fxNone, .word .ldMemA16Sp⟩,
  some ⟨0x09#8, "ADD HL,BC", 1, 8, 0, fxK0HC, .plain .addHlBc⟩,
  some ⟨0x0A#8, "LD A,(BC)", 1, 8, 0, fxNone, .plain .ldAMemBc⟩,
  some ⟨0x0B#8, "DEC BC", 1, 8, 0, fxNone, .plain .decBc⟩,
  some ⟨0x0C#8, "INC C", 1, 4, 0, fxZ0HK, .plain .incC⟩,
  some ⟨0x0D#8, "DEC C", 1, 4, 0, fxZ1HK, .plain .decC⟩,
  some ⟨0x0E#8, "LD C,d8", 2, 8, 0, fxNone, .byte .ldCD8⟩,
  some ⟨0x0F#8, "RRCA", 1, 4, 0, fx000C, .plain .rrca⟩]

/-- Primary table, opcodes 0x10 to 0x1F (R109, R111). -/
def primaryRow1 : List (Option Descriptor) := [
  some ⟨0x10#8, "STOP", 2, 4, 0, fxNone, .byte .stop⟩,
  some ⟨0x11#8, "LD DE,d16", 3, 12, 0, fxNone, .word .ldDeD16⟩,
  some ⟨0x12#8, "LD (DE),A", 1, 8, 0, fxNone, .plain .ldMemDeA⟩,
  some ⟨0x13#8, "INC DE", 1, 8, 0, fxNone, .plain .incDe⟩,
  some ⟨0x14#8, "INC D", 1, 4, 0, fxZ0HK, .plain .incD⟩,
  some ⟨0x15#8, "DEC D", 1, 4, 0, fxZ1HK, .plain .decD⟩,
  some ⟨0x16#8, "LD D,d8", 2, 8, 0, fxNone, .byte .ldDD8⟩,
  some ⟨0x17#8, "RLA", 1, 4, 0, fx000C, .plain .rla⟩,
  some ⟨0x18#8, "JR e8", 2, 12, 0, fxNone, .byte .jr⟩,
  some ⟨0x19#8, "ADD HL,DE", 1, 8, 0, fxK0HC, .plain .addHlDe⟩,
  some ⟨0x1A#8, "LD A,(DE)", 1, 8, 0, fxNone, .plain .ldAMemDe⟩,
  some ⟨0x1B#8, "DEC DE", 1, 8, 0, fxNone, .plain .decDe⟩,
  some ⟨0x1C#8, "INC E", 1, 4, 0, fxZ0HK, .plain .incE⟩,
  some ⟨0x1D#8, "DEC E", 1, 4, 0, fxZ1HK, .plain .decE⟩,
  some ⟨0x1E#8, "LD E,d8", 2, 8, 0, fxNone, .byte .ldED8⟩,
  some ⟨0x1F#8, "RRA", 1, 4, 0, fx000C, .plain .rra⟩]

/-- Primary table, opcodes 0x20 to 0x2F (R109, R111). -/
def primaryRow2 : List (Option Descriptor) := [
  some ⟨0x20#8, "JR NZ,e8", 2, 8, 4, fxNone, .byte .jrNz⟩,
  some ⟨0x21#8, "LD HL,d16", 3, 12, 0, fxNone, .word .ldHlD16⟩,
  some ⟨0x22#8, "LD (HL+),A", 1, 8, 0, fxNone, .plain .ldMemHlIncA⟩,
  some ⟨0x23#8, "INC HL", 1, 8, 0, fxNone, .plain .incHl⟩,
  some ⟨0x24#8, "INC H", 1, 4, 0, fxZ0HK, .plain .incH⟩,
  some ⟨0x25#8, "DEC H", 1, 4, 0, fxZ1HK, .plain .decH⟩,
  some ⟨0x26#8, "LD H,d8", 2, 8, 0, fxNone, .byte .ldHD8⟩,
  some ⟨0x27#8, "DAA", 1, 4, 0, fxZK0C, .plain .daa⟩,
  some ⟨0x28#8, "JR Z,e8", 2, 8, 4, fxNone, .byte .jrZ⟩,
  some ⟨0x29#8, "ADD HL,HL", 1, 8, 0, fxK0HC, .plain .addHlHl⟩,
  some ⟨0x2A#8, "LD A,(HL+)", 1, 8, 0, fxNone, .plain .ldAMemHlInc⟩,
  some ⟨0x2B#8, "DEC HL", 1, 8, 0, fxNone, .plain .decHl⟩,
  some ⟨0x2C#8, "INC L", 1, 4, 0, fxZ0HK, .plain .incL⟩,
  some ⟨0x2D#8, "DEC L", 1, 4, 0, fxZ1HK, .plain .decL⟩,
  some ⟨0x2E#8, "LD L,d8", 2, 8, 0, fxNone, .byte .ldLD8⟩,
  some ⟨0x2F#8, "CPL", 1, 4, 0, fxK11K, .plain .cpl⟩]

/-- Primary table, opcodes 0x30 to 0x3F (R109, R111). -/
def primaryRow3 : List (Option Descriptor) := [
  some ⟨0x30#8, "JR NC,e8", 2, 8, 4, fxNone, .byte .jrNc⟩,
  some ⟨0x31#8, "LD SP,d16", 3, 12, 0, fxNone, .word .ldSpD16⟩,
  some ⟨0x32#8, "LD (HL-),A", 1, 8, 0, fxNone, .plain .ldMemHlDecA⟩,
  some ⟨0x33#8, "INC SP", 1, 8, 0, fxNone, .plain .incSp⟩,
  some ⟨0x34#8, "INC (HL)", 1, 12, 0, fxZ0HK, .plain .incMemHl⟩,
  some ⟨0x35#8, "DEC (HL)", 1, 12, 0, fxZ1HK, .plain .decMemHl⟩,
  some ⟨0x36#8, "LD (HL),d8", 2, 12, 0, fxNone, .byte .ldMemHlD8⟩,
  some ⟨0x37#8, "SCF", 1, 4, 0, fxK001, .plain .scf⟩,
  some ⟨0x38#8, "JR C,e8", 2, 8, 4, fxNone, .byte .jrC⟩,
  some ⟨0x39#8, "ADD HL,SP", 1, 8, 0, fxK0HC, .plain .addHlSp⟩,
  some ⟨0x3A#8, "LD A,(HL-)", 1, 8, 0, fxNone, .plain .ldAMemHlDec⟩,
  some ⟨0x3B#8, "DEC SP", 1, 8, 0, fxNone, .plain .decSp⟩,
  some ⟨0x3C#8, "INC A", 1, 4, 0, fxZ0HK, .plain .incA⟩,
  some ⟨0x3D#8, "DEC A", 1, 4, 0, fxZ1HK, .plain .decA⟩,
  some ⟨0x3E#8, "LD A,d8", 2, 8, 0, fxNone, .byte .ldAD8⟩,
  some ⟨0x3F#8, "CCF", 1, 4, 0, fxK00C, .plain .ccf⟩]

/-- Primary table, opcodes 0x40 to 0x4F (R109, R111). -/
def primaryRow4 : List (Option Descriptor) := [
  some ⟨0x40#8, "LD B,B", 1, 4, 0, fxNone, .plain .ldBB⟩,
  some ⟨0x41#8, "LD B,C", 1, 4, 0, fxNone, .plain .ldBC⟩,
  some ⟨0x42#8, "LD B,D", 1, 4, 0, fxNone, .plain .ldBD⟩,
  some ⟨0x43#8, "LD B,E", 1, 4, 0, fxNone, .plain .ldBE⟩,
  some ⟨0x44#8, "LD B,H", 1, 4, 0, fxNone, .plain .ldBH⟩,
  some ⟨0x45#8, "LD B,L", 1, 4, 0, fxNone, .plain .ldBL⟩,
  some ⟨0x46#8, "LD B,(HL)", 1, 8, 0, fxNone, .plain .ldBMemHl⟩,
  some ⟨0x47#8, "LD B,A", 1, 4, 0, fxNone, .plain .ldBA⟩,
  some ⟨0x48#8, "LD C,B", 1, 4, 0, fxNone, .plain .ldCB⟩,
  some ⟨0x49#8, "LD C,C", 1, 4, 0, fxNone, .plain .ldCC⟩,
  some ⟨0x4A#8, "LD C,D", 1, 4, 0, fxNone, .plain .ldCD⟩,
  some ⟨0x4B#8, "LD C,E", 1, 4, 0, fxNone, .plain .ldCE⟩,
  some ⟨0x4C#8, "LD C,H", 1, 4, 0, fxNone, .plain .ldCH⟩,
  some ⟨0x4D#8, "LD C,L", 1, 4, 0, fxNone, .plain .ldCL⟩,
  some ⟨0x4E#8, "LD C,(HL)", 1, 8, 0, fxNone, .plain .ldCMemHl⟩,
  some ⟨0x4F#8, "LD C,A", 1, 4, 0, fxNone, .plain .ldCA⟩]

/-- Primary table, opcodes 0x50 to 0x5F (R109, R111). -/
def primaryRow5 : List (Option Descriptor) := [
  some ⟨0x50#8, "LD D,B", 1, 4, 0, fxNone, .plain .ldDB⟩,
  some ⟨0x51#8, "LD D,C", 1, 4, 0, fxNone, .plain .ldDC⟩,
  some ⟨0x52#8, "LD D,D", 1, 4, 0, fxNone, .plain .ldDD⟩,
  some ⟨0x53#8, "LD D,E", 1, 4, 0, fxNone, .plain .ldDE⟩,
  some ⟨0x54#8, "LD D,H", 1, 4, 0, fxNone, .plain .ldDH⟩,
  some ⟨0x55#8, "LD D,L", 1, 4, 0, fxNone, .plain .ldDL⟩,
  some ⟨0x56#8, "LD D,(HL)", 1, 8, 0, fxNone, .plain .ldDMemHl⟩,
  some ⟨0x57#8, "LD D,A", 1, 4, 0, fxNone, .plain .ldDA⟩,
  some ⟨0x58#8, "LD E,B", 1, 4, 0, fxNone, .plain .ldEB⟩,
  some ⟨0x59#8, "LD E,C", 1, 4, 0, fxNone, .plain .ldEC⟩,
  some ⟨0x5A#8, "LD E,D", 1, 4, 0, fxNone, .plain .ldED⟩,
  some ⟨0x5B#8, "LD E,E", 1, 4, 0, fxNone, .plain .ldEE⟩,
  some ⟨0x5C#8, "LD E,H", 1, 4, 0, fxNone, .plain .ldEH⟩,
  some ⟨0x5D#8, "LD E,L", 1, 4, 0, fxNone, .plain .ldEL⟩,
  some ⟨0x5E#8, "LD E,(HL)", 1, 8, 0, fxNone, .plain .ldEMemHl⟩,
  some ⟨0x5F#8, "LD E,A", 1, 4, 0, fxNone, .plain .ldEA⟩]

/-- Primary table, opcodes 0x60 to 0x6F (R109, R111). -/
def primaryRow6 : List (Option Descriptor) := [
  some ⟨0x60#8, "LD H,B", 1, 4, 0, fxNone, .plain .ldHB⟩,
  some ⟨0x61#8, "LD H,C", 1, 4, 0, fxNone, .plain .ldHC⟩,
  some ⟨0x62#8, "LD H,D", 1, 4, 0, fxNone, .plain .ldHD⟩,
  some ⟨0x63#8, "LD H,E", 1, 4, 0, fxNone, .plain .ldHE⟩,
  some ⟨0x64#8, "LD H,H", 1, 4, 0, fxNone, .plain .ldHH⟩,
  some ⟨0x65#8, "LD H,L", 1, 4, 0, fxNone, .plain .ldHL⟩,
  some ⟨0x66#8, "LD H,(HL)", 1, 8, 0, fxNone, .plain .ldHMemHl⟩,
  some ⟨0x67#8, "LD H,A", 1, 4, 0, fxNone, .plain .ldHA⟩,
  some ⟨0x68#8, "LD L,B", 1, 4, 0, fxNone, .plain .ldLB⟩,
  some ⟨0x69#8, "LD L,C", 1, 4, 0, fxNone, .plain .ldLC⟩,
  some ⟨0x6A#8, "LD L,D", 1, 4, 0, fxNone, .plain .ldLD⟩,
  some ⟨0x6B#8, "LD L,E", 1, 4, 0, fxNone, .plain .ldLE⟩,
  some ⟨0x6C#8, "LD L,H", 1, 4, 0, fxNone, .plain .ldLH⟩,
  some ⟨0x6D#8, "LD L,L", 1, 4, 0, fxNone, .plain .ldLL⟩,
  some ⟨0x6E#8, "LD L,(HL)", 1, 8, 0, fxNone, .plain .ldLMemHl⟩,
  some ⟨0x6F#8, "LD L,A", 1, 4, 0, fxNone, .plain .ldLA⟩]

/-- Primary table, opcodes 0x70 to 0x7F (R109, R111). -/
def primaryRow7 : List (Option Descriptor) := [
  some ⟨0x70#8, "LD (HL),B", 1, 8, 0, fxNone, .plain .ldMemHlB⟩,
  some ⟨0x71#8, "LD (HL),C", 1, 8, 0, fxNone, .plain .ldMemHlC⟩,
  some ⟨0x72#8, "LD (HL),D", 1, 8, 0, fxNone, .plain .ldMemHlD⟩,
  some ⟨0x73#8, "LD (HL),E", 1, 8, 0, fxNone, .plain .ldMemHlE⟩,
  some ⟨0x74#8, "LD (HL),H", 1, 8, 0, fxNone, .plain .ldMemHlH⟩,
  some ⟨0x75#8, "LD (HL),L", 1, 8, 0, fxNone, .plain .ldMemHlL⟩,
  some ⟨0x76#8, "HALT", 1, 4, 0, fxNone, .plain .halt⟩,
  some ⟨0x77#8, "LD (HL),A", 1, 8, 0, fxNone, .plain .ldMemHlA⟩,
  some ⟨0x78#8, "LD A,B", 1, 4, 0, fxNone, .plain .ldAB⟩,
  some ⟨0x79#8, "LD A,C", 1, 4, 0, fxNone, .plain .ldAC⟩,
  some ⟨0x7A#8, "LD A,D", 1, 4, 0, fxNone, .plain .ldAD⟩,
  some ⟨0x7B#8, "LD A,E", 1, 4, 0, fxNone, .plain .ldAE⟩,
  some ⟨0x7C#8, "LD A,H", 1, 4, 0, fxNone, .plain .ldAH⟩,
  some ⟨0x7D#8, "LD A,L", 1, 4, 0, fxNone, .plain .ldAL⟩,
  some ⟨0x7E#8, "LD A,(HL)", 1, 8, 0, fxNone, .plain .ldAMemHl⟩,
  some ⟨0x7F#8, "LD A,A", 1, 4, 0, fxNone, .plain .ldAA⟩]

/-- Primary table, opcodes 0x80 to 0x8F (R109, R111). -/
def primaryRow8 : List (Option Descriptor) := [
  some ⟨0x80#8, "ADD A,B", 1, 4, 0, fxZ0HC, .plain .addAB⟩,
  some ⟨0x81#8, "ADD A,C", 1, 4, 0, fxZ0HC, .plain .addAC⟩,
  some ⟨0x82#8, "ADD A,D", 1, 4, 0, fxZ0HC, .plain .addAD⟩,
  some ⟨0x83#8, "ADD A,E", 1, 4, 0, fxZ0HC, .plain .addAE⟩,
  some ⟨0x84#8, "ADD A,H", 1, 4, 0, fxZ0HC, .plain .addAH⟩,
  some ⟨0x85#8, "ADD A,L", 1, 4, 0, fxZ0HC, .plain .addAL⟩,
  some ⟨0x86#8, "ADD A,(HL)", 1, 8, 0, fxZ0HC, .plain .addAMemHl⟩,
  some ⟨0x87#8, "ADD A,A", 1, 4, 0, fxZ0HC, .plain .addAA⟩,
  some ⟨0x88#8, "ADC A,B", 1, 4, 0, fxZ0HC, .plain .adcAB⟩,
  some ⟨0x89#8, "ADC A,C", 1, 4, 0, fxZ0HC, .plain .adcAC⟩,
  some ⟨0x8A#8, "ADC A,D", 1, 4, 0, fxZ0HC, .plain .adcAD⟩,
  some ⟨0x8B#8, "ADC A,E", 1, 4, 0, fxZ0HC, .plain .adcAE⟩,
  some ⟨0x8C#8, "ADC A,H", 1, 4, 0, fxZ0HC, .plain .adcAH⟩,
  some ⟨0x8D#8, "ADC A,L", 1, 4, 0, fxZ0HC, .plain .adcAL⟩,
  some ⟨0x8E#8, "ADC A,(HL)", 1, 8, 0, fxZ0HC, .plain .adcAMemHl⟩,
  some ⟨0x8F#8, "ADC A,A", 1, 4, 0, fxZ0HC, .plain .adcAA⟩]

/-- Primary table, opcodes 0x90 to 0x9F (R109, R111). -/
def primaryRow9 : List (Option Descriptor) := [
  some ⟨0x90#8, "SUB B", 1, 4, 0, fxZ1HC, .plain .subB⟩,
  some ⟨0x91#8, "SUB C", 1, 4, 0, fxZ1HC, .plain .subC⟩,
  some ⟨0x92#8, "SUB D", 1, 4, 0, fxZ1HC, .plain .subD⟩,
  some ⟨0x93#8, "SUB E", 1, 4, 0, fxZ1HC, .plain .subE⟩,
  some ⟨0x94#8, "SUB H", 1, 4, 0, fxZ1HC, .plain .subH⟩,
  some ⟨0x95#8, "SUB L", 1, 4, 0, fxZ1HC, .plain .subL⟩,
  some ⟨0x96#8, "SUB (HL)", 1, 8, 0, fxZ1HC, .plain .subMemHl⟩,
  some ⟨0x97#8, "SUB A", 1, 4, 0, fxZ1HC, .plain .subA⟩,
  some ⟨0x98#8, "SBC A,B", 1, 4, 0, fxZ1HC, .plain .sbcAB⟩,
  some ⟨0x99#8, "SBC A,C", 1, 4, 0, fxZ1HC, .plain .sbcAC⟩,
  some ⟨0x9A#8, "SBC A,D", 1, 4, 0, fxZ1HC, .plain .sbcAD⟩,
  some ⟨0x9B#8, "SBC A,E", 1, 4, 0, fxZ1HC, .plain .sbcAE⟩,
  some ⟨0x9C#8, "SBC A,H", 1, 4, 0, fxZ1HC, .plain .sbcAH⟩,
  some ⟨0x9D#8, "SBC A,L", 1, 4, 0, fxZ1HC, .plain .sbcAL⟩,
  some ⟨0x9E#8, "SBC A,(HL)", 1, 8, 0, fxZ1HC, .plain .sbcAMemHl⟩,
  some ⟨0x9F#8, "SBC A,A", 1, 4, 0, fxZ1HC, .plain .sbcAA⟩]

/-- Primary table, opcodes 0xA0 to 0xAF (R109, R111). -/
def primaryRowA : List (Option Descriptor) := [
  some ⟨0xA0#8, "AND B", 1, 4, 0, fxZ010, .plain .andB⟩,
  some ⟨0xA1#8, "AND C", 1, 4, 0, fxZ010, .plain .andC⟩,
  some ⟨0xA2#8, "AND D", 1, 4, 0, fxZ010, .plain .andD⟩,
  some ⟨0xA3#8, "AND E", 1, 4, 0, fxZ010, .plain .andE⟩,
  some ⟨0xA4#8, "AND H", 1, 4, 0, fxZ010, .plain .andH⟩,
  some ⟨0xA5#8, "AND L", 1, 4, 0, fxZ010, .plain .andL⟩,
  some ⟨0xA6#8, "AND (HL)", 1, 8, 0, fxZ010, .plain .andMemHl⟩,
  some ⟨0xA7#8, "AND A", 1, 4, 0, fxZ010, .plain .andA⟩,
  some ⟨0xA8#8, "XOR B", 1, 4, 0, fxZ000, .plain .xorB⟩,
  some ⟨0xA9#8, "XOR C", 1, 4, 0, fxZ000, .plain .xorC⟩,
  some ⟨0xAA#8, "XOR D", 1, 4, 0, fxZ000, .plain .xorD⟩,
  some ⟨0xAB#8, "XOR E", 1, 4, 0, fxZ000, .plain .xorE⟩,
  some ⟨0xAC#8, "XOR H", 1, 4, 0, fxZ000, .plain .xorH⟩,
  some ⟨0xAD#8, "XOR L", 1, 4, 0, fxZ000, .plain .xorL⟩,
  some ⟨0xAE#8, "XOR (HL)", 1, 8, 0, fxZ000, .plain .xorMemHl⟩,
  some ⟨0xAF#8, "XOR A", 1, 4, 0, fxZ000, .plain .xorA⟩]

/-- Primary table, opcodes 0xB0 to 0xBF (R109, R111). -/
def primaryRowB : List (Option Descriptor) := [
  some ⟨0xB0#8, "OR B", 1, 4, 0, fxZ000, .plain .orB⟩,
  some ⟨0xB1#8, "OR C", 1, 4, 0, fxZ000, .plain .orC⟩,
  some ⟨0xB2#8, "OR D", 1, 4, 0, fxZ000, .plain .orD⟩,
  some ⟨0xB3#8, "OR E", 1, 4, 0, fxZ000, .plain .orE⟩,
  some ⟨0xB4#8, "OR H", 1, 4, 0, fxZ000, .plain .orH⟩,
  some ⟨0xB5#8, "OR L", 1, 4, 0, fxZ000, .plain .orL⟩,
  some ⟨0xB6#8, "OR (HL)", 1, 8, 0, fxZ000, .plain .orMemHl⟩,
  some ⟨0xB7#8, "OR A", 1, 4, 0, fxZ000, .plain .orA⟩,
  some ⟨0xB8#8, "CP B", 1, 4, 0, fxZ1HC, .plain .cpB⟩,
  some ⟨0xB9#8, "CP C", 1, 4, 0, fxZ1HC, .plain .cpC⟩,
  some ⟨0xBA#8, "CP D", 1, 4, 0, fxZ1HC, .plain .cpD⟩,
  some ⟨0xBB#8, "CP E", 1, 4, 0, fxZ1HC, .plain .cpE⟩,
  some ⟨0xBC#8, "CP H", 1, 4, 0, fxZ1HC, .plain .cpH⟩,
  some ⟨0xBD#8, "CP L", 1, 4, 0, fxZ1HC, .plain .cpL⟩,
  some ⟨0xBE#8, "CP (HL)", 1, 8, 0, fxZ1HC, .plain .cpMemHl⟩,
  some ⟨0xBF#8, "CP A", 1, 4, 0, fxZ1HC, .plain .cpA⟩]

/-- Primary table, opcodes 0xC0 to 0xCF (R109, R111). -/
def primaryRowC : List (Option Descriptor) := [
  some ⟨0xC0#8, "RET NZ", 1, 8, 12, fxNone, .plain .retNz⟩,
  some ⟨0xC1#8, "POP BC", 1, 12, 0, fxNone, .plain .popBc⟩,
  some ⟨0xC2#8, "JP NZ,a16", 3, 12, 4, fxNone, .word .jpNz⟩,
  some ⟨0xC3#8, "JP a16", 3, 16, 0, fxNone, .word .jp⟩,
  some ⟨0xC4#8, "CALL NZ,a16", 3, 12, 12, fxNone, .word .callNz⟩,
  some ⟨0xC5#8, "PUSH BC", 1, 16, 0, fxNone, .plain .pushBc⟩,
  some ⟨0xC6#8, "ADD A,d8", 2, 8, 0, fxZ0HC, .byte .addAD8⟩,
  some ⟨0xC7#8, "RST 00H", 1, 16, 0, fxNone, .plain .rst00⟩,
  some ⟨0xC8#8, "RET Z", 1, 8, 12, fxNone, .plain .retZ⟩,
  some ⟨0xC9#8, "RET", 1, 16, 0, fxNone, .plain .ret⟩,
  some ⟨0xCA#8, "JP Z,a16", 3, 12, 4, fxNone, .word .jpZ⟩,
  some ⟨0xCB#8, "PREFIX CB", 1, 0, 0, fxNone, .plain .prefixCb⟩,
  some ⟨0xCC#8, "CALL Z,a16", 3, 12, 12, fxNone, .word .callZ⟩,
  some ⟨0xCD#8, "CALL a16", 3, 24, 0, fxNone, .word .call⟩,
  some ⟨0xCE#8, "ADC A,d8", 2, 8, 0, fxZ0HC, .byte .adcAD8⟩,
  some ⟨0xCF#8, "RST 08H", 1, 16, 0, fxNone, .plain .rst08⟩]

/-- Primary table, opcodes 0xD0 to 0xDF (R109, R111). -/
def primaryRowD : List (Option Descriptor) := [
  some ⟨0xD0#8, "RET NC", 1, 8, 12, fxNone, .plain .retNc⟩,
  some ⟨0xD1#8, "POP DE", 1, 12, 0, fxNone, .plain .popDe⟩,
  some ⟨0xD2#8, "JP NC,a16", 3, 12, 4, fxNone, .word .jpNc⟩,
  none,
  some ⟨0xD4#8, "CALL NC,a16", 3, 12, 12, fxNone, .word .callNc⟩,
  some ⟨0xD5#8, "PUSH DE", 1, 16, 0, fxNone, .plain .pushDe⟩,
  some ⟨0xD6#8, "SUB d8", 2, 8, 0, fxZ1HC, .byte .subD8⟩,
  some ⟨0xD7#8, "RST 10H", 1, 16, 0, fxNone, .plain .rst10⟩,
  some ⟨0xD8#8, "RET C", 1, 8, 12, fxNone, .plain .retC⟩,
  some ⟨0xD9#8, "RETI", 1, 16, 0, fxNone, .plain .reti⟩,
  some ⟨0xDA#8, "JP C,a16", 3, 12, 4, fxNone, .word .jpC⟩,
  none,
  some ⟨0xDC#8, "CALL C,a16", 3, 12, 12, fxNone, .word .callC⟩,
  none,
  some ⟨0xDE#8, "SBC A,d8", 2, 8, 0, fxZ1HC, .byte .sbcAD8⟩,
  some ⟨0xDF#8, "RST 18H", 1, 16, 0, fxNone, .plain .rst18⟩]

/-- Primary table, opcodes 0xE0 to 0xEF (R109, R111). -/
def primaryRowE : List (Option Descriptor) := [
  some ⟨0xE0#8, "LDH (a8),A", 2, 12, 0, fxNone, .byte .ldhMemA8A⟩,
  some ⟨0xE1#8, "POP HL", 1, 12, 0, fxNone, .plain .popHl⟩,
  some ⟨0xE2#8, "LD (C),A", 1, 8, 0, fxNone, .plain .ldMemCA⟩,
  none,
  none,
  some ⟨0xE5#8, "PUSH HL", 1, 16, 0, fxNone, .plain .pushHl⟩,
  some ⟨0xE6#8, "AND d8", 2, 8, 0, fxZ010, .byte .andD8⟩,
  some ⟨0xE7#8, "RST 20H", 1, 16, 0, fxNone, .plain .rst20⟩,
  some ⟨0xE8#8, "ADD SP,e8", 2, 16, 0, fx00HC, .byte .addSpE8⟩,
  some ⟨0xE9#8, "JP (HL)", 1, 4, 0, fxNone, .plain .jpHl⟩,
  some ⟨0xEA#8, "LD (a16),A", 3, 16, 0, fxNone, .word .ldMemA16A⟩,
  none,
  none,
  none,
  some ⟨0xEE#8, "XOR d8", 2, 8, 0, fxZ000, .byte .xorD8⟩,
  some ⟨0xEF#8, "RST 28H", 1, 16, 0, fxNone, .plain .rst28⟩]

/-- Primary table, opcodes 0xF0 to 0xFF (R109, R111). -/
def primaryRowF : List (Option Descriptor) := [
  some ⟨0xF0#8, "LDH A,(a8)", 2, 12, 0, fxNone, .byte .ldhAMemA8⟩,
  some ⟨0xF1#8, "POP AF", 1, 12, 0, fxZNHC, .plain .popAf⟩,
  some ⟨0xF2#8, "LD A,(C)", 1, 8, 0, fxNone, .plain .ldAMemC⟩,
  some ⟨0xF3#8, "DI", 1, 4, 0, fxNone, .plain .di⟩,
  none,
  some ⟨0xF5#8, "PUSH AF", 1, 16, 0, fxNone, .plain .pushAf⟩,
  some ⟨0xF6#8, "OR d8", 2, 8, 0, fxZ000, .byte .orD8⟩,
  some ⟨0xF7#8, "RST 30H", 1, 16, 0, fxNone, .plain .rst30⟩,
  some ⟨0xF8#8, "LD HL,SP+e8", 2, 12, 0, fx00HC, .byte .ldHlSpE8⟩,
  some ⟨0xF9#8, "LD SP,HL", 1, 8, 0, fxNone, .plain .ldSpHl⟩,
  some ⟨0xFA#8, "LD A,(a16)", 3, 16, 0, fxNone, .word .ldAMemA16⟩,
  some ⟨0xFB#8, "EI", 1, 4, 0, fxNone, .plain .ei⟩,
  none,
  none,
  some ⟨0xFE#8, "CP d8", 2, 8, 0, fxZ1HC, .byte .cpD8⟩,
  some ⟨0xFF#8, "RST 38H", 1, 16, 0, fxNone, .plain .rst38⟩]

/-- Extended table, opcodes 0x00 to 0x0F (R110). -/
def extendedRow0 : List Descriptor := [
  ⟨0x00#8, "RLC B", 2, 8, 0, fxZ00C, .plain .rlcB⟩,
  ⟨0x01#8, "RLC C", 2, 8, 0, fxZ00C, .plain .rlcC⟩,
  ⟨0x02#8, "RLC D", 2, 8, 0, fxZ00C, .plain .rlcD⟩,
  ⟨0x03#8, "RLC E", 2, 8, 0, fxZ00C, .plain .rlcE⟩,
  ⟨0x04#8, "RLC H", 2, 8, 0, fxZ00C, .plain .rlcH⟩,
  ⟨0x05#8, "RLC L", 2, 8, 0, fxZ00C, .plain .rlcL⟩,
  ⟨0x06#8, "RLC (HL)", 2, 16, 0, fxZ00C, .plain .rlcMemHl⟩,
  ⟨0x07#8, "RLC A", 2, 8, 0, fxZ00C, .plain .rlcA⟩,
  ⟨0x08#8, "RRC B", 2, 8, 0, fxZ00C, .plain .rrcB⟩,
  ⟨0x09#8, "RRC C", 2, 8, 0, fxZ00C, .plain .rrcC⟩,
  ⟨0x0A#8, "RRC D", 2, 8, 0, fxZ00C, .plain .rrcD⟩,
  ⟨0x0B#8, "RRC E", 2, 8, 0, fxZ00C, .plain .rrcE⟩,
  ⟨0x0C#8, "RRC H", 2, 8, 0, fxZ00C, .plain .rrcH⟩,
  ⟨0x0D#8, "RRC L", 2, 8, 0, fxZ00C, .plain .rrcL⟩,
  ⟨0x0E#8, "RRC (HL)", 2, 16, 0, fxZ00C, .plain .rrcMemHl⟩,
  ⟨0x0F#8, "RRC A", 2, 8, 0, fxZ00C, .plain .rrcA⟩]

/-- Extended table, opcodes 0x10 to 0x1F (R110). -/
def extendedRow1 : List Descriptor := [
  ⟨0x10#8, "RL B", 2, 8, 0, fxZ00C, .plain .rlB⟩,
  ⟨0x11#8, "RL C", 2, 8, 0, fxZ00C, .plain .rlC⟩,
  ⟨0x12#8, "RL D", 2, 8, 0, fxZ00C, .plain .rlD⟩,
  ⟨0x13#8, "RL E", 2, 8, 0, fxZ00C, .plain .rlE⟩,
  ⟨0x14#8, "RL H", 2, 8, 0, fxZ00C, .plain .rlH⟩,
  ⟨0x15#8, "RL L", 2, 8, 0, fxZ00C, .plain .rlL⟩,
  ⟨0x16#8, "RL (HL)", 2, 16, 0, fxZ00C, .plain .rlMemHl⟩,
  ⟨0x17#8, "RL A", 2, 8, 0, fxZ00C, .plain .rlA⟩,
  ⟨0x18#8, "RR B", 2, 8, 0, fxZ00C, .plain .rrB⟩,
  ⟨0x19#8, "RR C", 2, 8, 0, fxZ00C, .plain .rrC⟩,
  ⟨0x1A#8, "RR D", 2, 8, 0, fxZ00C, .plain .rrD⟩,
  ⟨0x1B#8, "RR E", 2, 8, 0, fxZ00C, .plain .rrE⟩,
  ⟨0x1C#8, "RR H", 2, 8, 0, fxZ00C, .plain .rrH⟩,
  ⟨0x1D#8, "RR L", 2, 8, 0, fxZ00C, .plain .rrL⟩,
  ⟨0x1E#8, "RR (HL)", 2, 16, 0, fxZ00C, .plain .rrMemHl⟩,
  ⟨0x1F#8, "RR A", 2, 8, 0, fxZ00C, .plain .rrA⟩]

/-- Extended table, opcodes 0x20 to 0x2F (R110). -/
def extendedRow2 : List Descriptor := [
  ⟨0x20#8, "SLA B", 2, 8, 0, fxZ00C, .plain .slaB⟩,
  ⟨0x21#8, "SLA C", 2, 8, 0, fxZ00C, .plain .slaC⟩,
  ⟨0x22#8, "SLA D", 2, 8, 0, fxZ00C, .plain .slaD⟩,
  ⟨0x23#8, "SLA E", 2, 8, 0, fxZ00C, .plain .slaE⟩,
  ⟨0x24#8, "SLA H", 2, 8, 0, fxZ00C, .plain .slaH⟩,
  ⟨0x25#8, "SLA L", 2, 8, 0, fxZ00C, .plain .slaL⟩,
  ⟨0x26#8, "SLA (HL)", 2, 16, 0, fxZ00C, .plain .slaMemHl⟩,
  ⟨0x27#8, "SLA A", 2, 8, 0, fxZ00C, .plain .slaA⟩,
  ⟨0x28#8, "SRA B", 2, 8, 0, fxZ00C, .plain .sraB⟩,
  ⟨0x29#8, "SRA C", 2, 8, 0, fxZ00C, .plain .sraC⟩,
  ⟨0x2A#8, "SRA D", 2, 8, 0, fxZ00C, .plain .sraD⟩,
  ⟨0x2B#8, "SRA E", 2, 8, 0, fxZ00C, .plain .sraE⟩,
  ⟨0x2C#8, "SRA H", 2, 8, 0, fxZ00C, .plain .sraH⟩,
  ⟨0x2D#8, "SRA L", 2, 8, 0, fxZ00C, .plain .sraL⟩,
  ⟨0x2E#8, "SRA (HL)", 2, 16, 0, fxZ00C, .plain .sraMemHl⟩,
  ⟨0x2F#8, "SRA A", 2, 8, 0, fxZ00C, .plain .sraA⟩]

/-- Extended table, opcodes 0x30 to 0x3F (R110). -/
def extendedRow3 : List Descriptor := [
  ⟨0x30#8, "SWAP B", 2, 8, 0, fxZ000, .plain .swapB⟩,
  ⟨0x31#8, "SWAP C", 2, 8, 0, fxZ000, .plain .swapC⟩,
  ⟨0x32#8, "SWAP D", 2, 8, 0, fxZ000, .plain .swapD⟩,
  ⟨0x33#8, "SWAP E", 2, 8, 0, fxZ000, .plain .swapE⟩,
  ⟨0x34#8, "SWAP H", 2, 8, 0, fxZ000, .plain .swapH⟩,
  ⟨0x35#8, "SWAP L", 2, 8, 0, fxZ000, .plain .swapL⟩,
  ⟨0x36#8, "SWAP (HL)", 2, 16, 0, fxZ000, .plain .swapMemHl⟩,
  ⟨0x37#8, "SWAP A", 2, 8, 0, fxZ000, .plain .swapA⟩,
  ⟨0x38#8, "SRL B", 2, 8, 0, fxZ00C, .plain .srlB⟩,
  ⟨0x39#8, "SRL C", 2, 8, 0, fxZ00C, .plain .srlC⟩,
  ⟨0x3A#8, "SRL D", 2, 8, 0, fxZ00C, .plain .srlD⟩,
  ⟨0x3B#8, "SRL E", 2, 8, 0, fxZ00C, .plain .srlE⟩,
  ⟨0x3C#8, "SRL H", 2, 8, 0, fxZ00C, .plain .srlH⟩,
  ⟨0x3D#8, "SRL L", 2, 8, 0, fxZ00C, .plain .srlL⟩,
  ⟨0x3E#8, "SRL (HL)", 2, 16, 0, fxZ00C, .plain .srlMemHl⟩,
  ⟨0x3F#8, "SRL A", 2, 8, 0, fxZ00C, .plain .srlA⟩]

/-- Extended table, opcodes 0x40 to 0x4F (R110). -/
def extendedRow4 : List Descriptor := [
  ⟨0x40#8, "BIT 0,B", 2, 8, 0, fxZ00K, .plain .bit0B⟩,
  ⟨0x41#8, "BIT 0,C", 2, 8, 0, fxZ00K, .plain .bit0C⟩,
  ⟨0x42#8, "BIT 0,D", 2, 8, 0, fxZ00K, .plain .bit0D⟩,
  ⟨0x43#8, "BIT 0,E", 2, 8, 0, fxZ00K, .plain .bit0E⟩,
  ⟨0x44#8, "BIT 0,H", 2, 8, 0, fxZ00K, .plain .bit0H⟩,
  ⟨0x45#8, "BIT 0,L", 2, 8, 0, fxZ00K, .plain .bit0L⟩,
  ⟨0x46#8, "BIT 0,(HL)", 2, 12, 0, fxZ00K, .plain .bit0MemHl⟩,
  ⟨0x47#8, "BIT 0,A", 2, 8, 0, fxZ00K, .plain .bit0A⟩,
  ⟨0x48#8, "BIT 1,B", 2, 8, 0, fxZ00K, .plain .bit1B⟩,
  ⟨0x49#8, "BIT 1,C", 2, 8, 0, fxZ00K, .plain .bit1C⟩,
  ⟨0x4A#8, "BIT 1,D", 2, 8, 0, fxZ00K, .plain .bit1D⟩,
  ⟨0x4B#8, "BIT 1,E", 2, 8, 0, fxZ00K, .plain .bit1E⟩,
  ⟨0x4C#8, "BIT 1,H", 2, 8, 0, fxZ00K, .plain .bit1H⟩,
  ⟨0x4D#8, "BIT 1,L", 2, 8, 0, fxZ00K, .plain .bit1L⟩,
  ⟨0x4E#8, "BIT 1,(HL)", 2, 12, 0, fxZ00K, .plain .bit1MemHl⟩,
  ⟨0x4F#8, "BIT 1,A", 2, 8, 0, fxZ00K, .plain .bit1A⟩]

/-- Extended table, opcodes 0x50 to 0x5F (R110). -/
def extendedRow5 : List Descriptor := [
  ⟨0x50#8, "BIT 2,B", 2, 8, 0, fxZ00K, .plain .bit2B⟩,
  ⟨0x51#8, "BIT 2,C", 2, 8, 0, fxZ00K, .plain .bit2C⟩,
  ⟨0x52#8, "BIT 2,D", 2, 8, 0, fxZ00K, .plain .bit2D⟩,
  ⟨0x53#8, "BIT 2,E", 2, 8, 0, fxZ00K, .plain .bit2E⟩,
  ⟨0x54#8, "BIT 2,H", 2, 8, 0, fxZ00K, .plain .bit2H⟩,
  ⟨0x55#8, "BIT 2,L", 2, 8, 0, fxZ00K, .plain .bit2L⟩,
  ⟨0x56#8, "BIT 2,(HL)", 2, 12, 0, fxZ00K, .plain .bit2MemHl⟩,
  ⟨0x57#8, "BIT 2,A", 2, 8, 0, fxZ00K, .plain .bit2A⟩,
  ⟨0x58#8, "BIT 3,B", 2, 8, 0, fxZ00K, .plain .bit3B⟩,
  ⟨0x59#8, "BIT 3,C", 2, 8, 0, fxZ00K, .plain .bit3C⟩,
  ⟨0x5A#8, "BIT 3,D", 2, 8, 0, fxZ00K, .plain .bit3D⟩,
  ⟨0x5B#8, "BIT 3,E", 2, 8, 0, fxZ00K, .plain .bit3E⟩,
  ⟨0x5C#8, "BIT 3,H", 2, 8, 0, fxZ00K, .plain .bit3H⟩,
  ⟨0x5D#8, "BIT 3,L", 2, 8, 0, fxZ00K, .plain .bit3L⟩,
  ⟨0x5E#8, "BIT 3,(HL)", 2, 12, 0, fxZ00K, .plain .bit3MemHl⟩,
  ⟨0x5F#8, "BIT 3,A", 2, 8, 0, fxZ00K, .plain .bit3A⟩]

/-- Extended table, opcodes 0x60 to 0x6F (R110). -/
def extendedRow6 : List Descriptor := [
  ⟨0x60#8, "BIT 4,B", 2, 8, 0, fxZ00K, .plain .bit4B⟩,
  ⟨0x61#8, "BIT 4,C", 2, 8, 0, fxZ00K, .plain .bit4C⟩,
  ⟨0x62#8, "BIT 4,D", 2, 8, 0, fxZ00K, .plain .bit4D⟩,
  ⟨0x63#8, "BIT 4,E", 2, 8, 0, fxZ00K, .plain .bit4E⟩,
  ⟨0x64#8, "BIT 4,H", 2, 8, 0, fxZ00K, .plain .bit4H⟩,
  ⟨0x65#8, "BIT 4,L", 2, 8, 0, fxZ00K, .plain .bit4L⟩,
  ⟨0x66#8, "BIT 4,(HL)", 2, 12, 0, fxZ00K, .plain .bit4MemHl⟩,
  ⟨0x67#8, "BIT 4,A", 2, 8, 0, fxZ00K, .plain .bit4A⟩,
  ⟨0x68#8, "BIT 5,B", 2, 8, 0, fxZ00K, .plain .bit5B⟩,
  ⟨0x69#8, "BIT 5,C", 2, 8, 0, fxZ00K, .plain .bit5C⟩,
  ⟨0x6A#8, "BIT 5,D", 2, 8, 0, fxZ00K, .plain .bit5D⟩,
  ⟨0x6B#8, "BIT 5,E", 2, 8, 0, fxZ00K, .plain .bit5E⟩,
  ⟨0x6C#8, "BIT 5,H", 2, 8, 0, fxZ00K, .plain .bit5H⟩,
  ⟨0x6D#8, "BIT 5,L", 2, 8, 0, fxZ00K, .plain .bit5L⟩,
  ⟨0x6E#8, "BIT 5,(HL)", 2, 12, 0, fxZ00K, .plain .bit5MemHl⟩,
  ⟨0x6F#8, "BIT 5,A", 2, 8, 0, fxZ00K, .plain .bit5A⟩]

/-- Extended table, opcodes 0x70 to 0x7F (R110). -/
def extendedRow7 : List Descriptor := [
  ⟨0x70#8, "BIT 6,B", 2, 8, 0, fxZ00K, .plain .bit6B⟩,
  ⟨0x71#8, "BIT 6,C", 2, 8, 0, fxZ00K, .plain .bit6C⟩,
  ⟨0x72#8, "BIT 6,D", 2, 8, 0, fxZ00K, .plain .bit6D⟩,
  ⟨0x73#8, "BIT 6,E", 2, 8, 0, fxZ00K, .plain .bit6E⟩,
  ⟨0x74#8, "BIT 6,H", 2, 8, 0, fxZ00K, .plain .bit6H⟩,
  ⟨0x75#8, "BIT 6,L", 2, 8, 0, fxZ00K, .plain .bit6L⟩,
  ⟨0x76#8, "BIT 6,(HL)", 2, 12, 0, fxZ00K, .plain .bit6MemHl⟩,
  ⟨0x77#8, "BIT 6,A", 2, 8, 0, fxZ00K, .plain .bit6A⟩,
  ⟨0x78#8, "BIT 7,B", 2, 8, 0, fxZ00K, .plain .bit7B⟩,
  ⟨0x79#8, "BIT 7,C", 2, 8, 0, fxZ00K, .plain .bit7C⟩,
  ⟨0x7A#8, "BIT 7,D", 2, 8, 0, fxZ00K, .plain .bit7D⟩,
  ⟨0x7B#8, "BIT 7,E", 2, 8, 0, fxZ00K, .plain .bit7E⟩,
  ⟨0x7C#8, "BIT 7,H", 2, 8, 0, fxZ00K, .plain .bit7H⟩,
  ⟨0x7D#8, "BIT 7,L", 2, 8, 0, fxZ00K, .plain .bit7L⟩,
  ⟨0x7E#8, "BIT 7,(HL)", 2, 12, 0, fxZ00K, .plain .bit7MemHl⟩,
  ⟨0x7F#8, "BIT 7,A", 2, 8, 0, fxZ00K, .plain .bit7A⟩]

/-- Extended table, opcodes 0x80 to 0x8F (R110). -/
def extendedRow8 : List Descriptor := [
  ⟨0x80#8, "RES 0,B", 2, 8, 0, fxNone, .plain .res0B⟩,
  ⟨0x81#8, "RES 0,C", 2, 8, 0, fxNone, .plain .res0C⟩,
  ⟨0x82#8, "RES 0,D", 2, 8, 0, fxNone, .plain .res0D⟩,
  ⟨0x83#8, "RES 0,E", 2, 8, 0, fxNone, .plain .res0E⟩,
  ⟨0x84#8, "RES 0,H", 2, 8, 0, fxNone, .plain .res0H⟩,
  ⟨0x85#8, "RES 0,L", 2, 8, 0, fxNone, .plain .res0L⟩,
  ⟨0x86#8, "RES 0,(HL)", 2, 16, 0, fxNone, .plain .res0MemHl⟩,
  ⟨0x87#8, "RES 0,A", 2, 8, 0, fxNone, .plain .res0A⟩,
  ⟨0x88#8, "RES 1,B", 2, 8, 0, fxNone, .plain .res1B⟩,
  ⟨0x89#8, "RES 1,C", 2, 8, 0, fxNone, .plain .res1C⟩,
  ⟨0x8A#8, "RES 1,D", 2, 8, 0, fxNone, .plain .res1D⟩,
  ⟨0x8B#8, "RES 1,E", 2, 8, 0, fxNone, .plain .res1E⟩,
  ⟨0x8C#8, "RES 1,H", 2, 8, 0, fxNone, .plain .res1H⟩,
  ⟨0x8D#8, "RES 1,L", 2, 8, 0, fxNone, .plain .res1L⟩,
  ⟨0x8E#8, "RES 1,(HL)", 2, 16, 0, fxNone, .plain .res1MemHl⟩,
  ⟨0x8F#8, "RES 1,A", 2, 8, 0, fxNone, .plain .res1A⟩]

/-- Extended table, opcodes 0x90 to 0x9F (R110). -/
def extendedRow9 : List Descriptor := [
  ⟨0x90#8, "RES 2,B", 2, 8, 0, fxNone, .plain .res2B⟩,
  ⟨0x91#8, "RES 2,C", 2, 8, 0, fxNone, .plain .res2C⟩,
  ⟨0x92#8, "RES 2,D", 2, 8, 0, fxNone, .plain .res2D⟩,
  ⟨0x93#8, "RES 2,E", 2, 8, 0, fxNone, .plain .res2E⟩,
  ⟨0x94#8, "RES 2,H", 2, 8, 0, fxNone, .plain .res2H⟩,
  ⟨0x95#8, "RES 2,L", 2, 8, 0, fxNone, .plain .res2L⟩,
  ⟨0x96#8, "RES 2,(HL)", 2, 16, 0, fxNone, .plain .res2MemHl⟩,
  ⟨0x97#8, "RES 2,A", 2, 8, 0, fxNone, .plain .res2A⟩,
  ⟨0x98#8, "RES 3,B", 2, 8, 0, fxNone, .plain .res3B⟩,
  ⟨0x99#8, "RES 3,C", 2, 8, 0, fxNone, .plain .res3C⟩,
  ⟨0x9A#8, "RES 3,D", 2, 8, 0, fxNone, .plain .res3D⟩,
  ⟨0x9B#8, "RES 3,E", 2, 8, 0, fxNone, .plain .res3E⟩,
  ⟨0x9C#8, "RES 3,H", 2, 8, 0, fxNone, .plain .res3H⟩,
  ⟨0x9D#8, "RES 3,L", 2, 8, 0, fxNone, .plain .res3L⟩,
  ⟨0x9E#8, "RES 3,(HL)", 2, 16, 0, fxNone, .plain .res3MemHl⟩,
  ⟨0x9F#8, "RES 3,A", 2, 8, 0, fxNone, .plain .res3A⟩]

/-- Extended table, opcodes 0xA0 to 0xAF (R110). -/
def extendedRowA : List Descriptor := [
  ⟨0xA0#8, "RES 4,B", 2, 8, 0, fxNone, .plain .res4B⟩,
  ⟨0xA1#8, "RES 4,C", 2, 8, 0, fxNone, .plain .res4C⟩,
  ⟨0xA2#8, "RES 4,D", 2, 8, 0, fxNone, .plain .res4D⟩,
  ⟨0xA3#8, "RES 4,E", 2, 8, 0, fxNone, .plain .res4E⟩,
  ⟨0xA4#8, "RES 4,H", 2, 8, 0, fxNone, .plain .res4H⟩,
  ⟨0xA5#8, "RES 4,L", 2, 8, 0, fxNone, .plain .res4L⟩,
  ⟨0xA6#8, "RES 4,(HL)", 2, 16, 0, fxNone, .plain .res4MemHl⟩,
  ⟨0xA7#8, "RES 4,A", 2, 8, 0, fxNone, .plain .res4A⟩,
  ⟨0xA8#8, "RES 5,B", 2, 8, 0, fxNone, .plain .res5B⟩,
  ⟨0xA9#8, "RES 5,C", 2, 8, 0, fxNone, .plain .res5C⟩,
  ⟨0xAA#8, "RES 5,D", 2, 8, 0, fxNone, .plain .res5D⟩,
  ⟨0xAB#8, "RES 5,E", 2, 8, 0, fxNone, .plain .res5E⟩,
  ⟨0xAC#8, "RES 5,H", 2, 8, 0, fxNone, .plain .res5H⟩,
  ⟨0xAD#8, "RES 5,L", 2, 8, 0, fxNone, .plain .res5L⟩,
  ⟨0xAE#8, "RES 5,(HL)", 2, 16, 0, fxNone, .plain .res5MemHl⟩,
  ⟨0xAF#8, "RES 5,A", 2, 8, 0, fxNone, .plain .res5A⟩]

/-- Extended table, opcodes 0xB0 to 0xBF (R110). -/
def extendedRowB : List Descriptor := [
  ⟨0xB0#8, "RES 6,B", 2, 8, 0, fxNone, .plain .res6B⟩,
  ⟨0xB1#8, "RES 6,C", 2, 8, 0, fxNone, .plain .res6C⟩,
  ⟨0xB2#8, "RES 6,D", 2, 8, 0, fxNone, .plain .res6D⟩,
  ⟨0xB3#8, "RES 6,E", 2, 8, 0, fxNone, .plain .res6E⟩,
  ⟨0xB4#8, "RES 6,H", 2, 8, 0, fxNone, .plain .res6H⟩,
  ⟨0xB5#8, "RES 6,L", 2, 8, 0, fxNone, .plain .res6L⟩,
  ⟨0xB6#8, "RES 6,(HL)", 2, 16, 0, fxNone, .plain .res6MemHl⟩,
  ⟨0xB7#8, "RES 6,A", 2, 8, 0, fxNone, .plain .res6A⟩,
  ⟨0xB8#8, "RES 7,B", 2, 8, 0, fxNone, .plain .res7B⟩,
  ⟨0xB9#8, "RES 7,C", 2, 8, 0, fxNone, .plain .res7C⟩,
  ⟨0xBA#8, "RES 7,D", 2, 8, 0, fxNone, .plain .res7D⟩,
  ⟨0xBB#8, "RES 7,E", 2, 8, 0, fxNone, .plain .res7E⟩,
  ⟨0xBC#8, "RES 7,H", 2, 8, 0, fxNone, .plain .res7H⟩,
  ⟨0xBD#8, "RES 7,L", 2, 8, 0, fxNone, .plain .res7L⟩,
  ⟨0xBE#8, "RES 7,(HL)", 2, 16, 0, fxNone, .plain .res7MemHl⟩,
  ⟨0xBF#8, "RES 7,A", 2, 8, 0, fxNone, .plain .res7A⟩]

/-- Extended table, opcodes 0xC0 to 0xCF (R110). -/
def extendedRowC : List Descriptor := [
  ⟨0xC0#8, "SET 0,B", 2, 8, 0, fxNone, .plain .set0B⟩,
  ⟨0xC1#8, "SET 0,C", 2, 8, 0, fxNone, .plain .set0C⟩,
  ⟨0xC2#8, "SET 0,D", 2, 8, 0, fxNone, .plain .set0D⟩,
  ⟨0xC3#8, "SET 0,E", 2, 8, 0, fxNone, .plain .set0E⟩,
  ⟨0xC4#8, "SET 0,H", 2, 8, 0, fxNone, .plain .set0H⟩,
  ⟨0xC5#8, "SET 0,L", 2, 8, 0, fxNone, .plain .set0L⟩,
  ⟨0xC6#8, "SET 0,(HL)", 2, 16, 0, fxNone, .plain .set0MemHl⟩,
  ⟨0xC7#8, "SET 0,A", 2, 8, 0, fxNone, .plain .set0A⟩,
  ⟨0xC8#8, "SET 1,B", 2, 8, 0, fxNone, .plain .set1B⟩,
  ⟨0xC9#8, "SET 1,C", 2, 8, 0, fxNone, .plain .set1C⟩,
  ⟨0xCA#8, "SET 1,D", 2, 8, 0, fxNone, .plain .set1D⟩,
  ⟨0xCB#8, "SET 1,E", 2, 8, 0, fxNone, .plain .set1E⟩,
  ⟨0xCC#8, "SET 1,H", 2, 8, 0, fxNone, .plain .set1H⟩,
  ⟨0xCD#8, "SET 1,L", 2, 8, 0, fxNone, .plain .set1L⟩,
  ⟨0xCE#8, "SET 1,(HL)", 2, 16, 0, fxNone, .plain .set1MemHl⟩,
  ⟨0xCF#8, "SET 1,A", 2, 8, 0, fxNone, .plain .set1A⟩]

/-- Extended table, opcodes 0xD0 to 0xDF (R110). -/
def extendedRowD : List Descriptor := [
  ⟨0xD0#8, "SET 2,B", 2, 8, 0, fxNone, .plain .set2B⟩,
  ⟨0xD1#8, "SET 2,C", 2, 8, 0, fxNone, .plain .set2C⟩,
  ⟨0xD2#8, "SET 2,D", 2, 8, 0, fxNone, .plain .set2D⟩,
  ⟨0xD3#8, "SET 2,E", 2, 8, 0, fxNone, .plain .set2E⟩,
  ⟨0xD4#8, "SET 2,H", 2, 8, 0, fxNone, .plain .set2H⟩,
  ⟨0xD5#8, "SET 2,L", 2, 8, 0, fxNone, .plain .set2L⟩,
  ⟨0xD6#8, "SET 2,(HL)", 2, 16, 0, fxNone, .plain .set2MemHl⟩,
  ⟨0xD7#8, "SET 2,A", 2, 8, 0, fxNone, .plain .set2A⟩,
  ⟨0xD8#8, "SET 3,B", 2, 8, 0, fxNone, .plain .set3B⟩,
  ⟨0xD9#8, "SET 3,C", 2, 8, 0, fxNone, .plain .set3C⟩,
  ⟨0xDA#8, "SET 3,D", 2, 8, 0, fxNone, .plain .set3D⟩,
  ⟨0xDB#8, "SET 3,E", 2, 8, 0, fxNone, .plain .set3E⟩,
  ⟨0xDC#8, "SET 3,H", 2, 8, 0, fxNone, .plain .set3H⟩,
  ⟨0xDD#8, "SET 3,L", 2, 8, 0, fxNone, .plain .set3L⟩,
  ⟨0xDE#8, "SET 3,(HL)", 2, 16, 0, fxNone, .plain .set3MemHl⟩,
  ⟨0xDF#8, "SET 3,A", 2, 8, 0, fxNone, .plain .set3A⟩]

/-- Extended table, opcodes 0xE0 to 0xEF (R110). -/
def extendedRowE : List Descriptor := [
  ⟨0xE0#8, "SET 4,B", 2, 8, 0, fxNone, .plain .set4B⟩,
  ⟨0xE1#8, "SET 4,C", 2, 8, 0, fxNone, .plain .set4C⟩,
  ⟨0xE2#8, "SET 4,D", 2, 8, 0, fxNone, .plain .set4D⟩,
  ⟨0xE3#8, "SET 4,E", 2, 8, 0, fxNone, .plain .set4E⟩,
  ⟨0xE4#8, "SET 4,H", 2, 8, 0, fxNone, .plain .set4H⟩,
  ⟨0xE5#8, "SET 4,L", 2, 8, 0, fxNone, .plain .set4L⟩,
  ⟨0xE6#8, "SET 4,(HL)", 2, 16, 0, fxNone, .plain .set4MemHl⟩,
  ⟨0xE7#8, "SET 4,A", 2, 8, 0, fxNone, .plain .set4A⟩,
  ⟨0xE8#8, "SET 5,B", 2, 8, 0, fxNone, .plain .set5B⟩,
  ⟨0xE9#8, "SET 5,C", 2, 8, 0, fxNone, .plain .set5C⟩,
  ⟨0xEA#8, "SET 5,D", 2, 8, 0, fxNone, .plain .set5D⟩,
  ⟨0xEB#8, "SET 5,E", 2, 8, 0, fxNone, .plain .set5E⟩,
  ⟨0xEC#8, "SET 5,H", 2, 8, 0, fxNone, .plain .set5H⟩,
  ⟨0xED#8, "SET 5,L", 2, 8, 0, fxNone, .plain .set5L⟩,
  ⟨0xEE#8, "SET 5,(HL)", 2, 16, 0, fxNone, .plain .set5MemHl⟩,
  ⟨0xEF#8, "SET 5,A", 2, 8, 0, fxNone, .plain .set5A⟩]

/-- Extended table, opcodes 0xF0 to 0xFF (R110). -/
def extendedRowF : List Descriptor := [
  ⟨0xF0#8, "SET 6,B", 2, 8, 0, fxNone, .plain .set6B⟩,
  ⟨0xF1#8, "SET 6,C", 2, 8, 0, fxNone, .plain .set6C⟩,
  ⟨0xF2#8, "SET 6,D", 2, 8, 0, fxNone, .plain .set6D⟩,
  ⟨0xF3#8, "SET 6,E", 2, 8, 0, fxNone, .plain .set6E⟩,
  ⟨0xF4#8, "SET 6,H", 2, 8, 0, fxNone, .plain .set6H⟩,
  ⟨0xF5#8, "SET 6,L", 2, 8, 0, fxNone, .plain .set6L⟩,
  ⟨0xF6#8, "SET 6,(HL)", 2, 16, 0, fxNone, .plain .set6MemHl⟩,
  ⟨0xF7#8, "SET 6,A", 2, 8, 0, fxNone, .plain .set6A⟩,
  ⟨0xF8#8, "SET 7,B", 2, 8, 0, fxNone, .plain .set7B⟩,
  ⟨0xF9#8, "SET 7,C", 2, 8, 0, fxNone, .plain .set7C⟩,
  ⟨0xFA#8, "SET 7,D", 2, 8, 0, fxNone, .plain .set7D⟩,
  ⟨0xFB#8, "SET 7,E", 2, 8, 0, fxNone, .plain .set7E⟩,
  ⟨0xFC#8, "SET 7,H", 2, 8, 0, fxNone, .plain .set7H⟩,
  ⟨0xFD#8, "SET 7,L", 2, 8, 0, fxNone, .plain .set7L⟩,
  ⟨0xFE#8, "SET 7,(HL)", 2, 16, 0, fxNone, .plain .set7MemHl⟩,
  ⟨0xFF#8, "SET 7,A", 2, 8, 0, fxNone, .plain .set7A⟩]

/-- The primary table (R109). -/
def primaryTable : List (List (Option Descriptor)) :=
  [primaryRow0, primaryRow1, primaryRow2, primaryRow3, primaryRow4, primaryRow5, primaryRow6, primaryRow7,
   primaryRow8, primaryRow9, primaryRowA, primaryRowB, primaryRowC, primaryRowD, primaryRowE, primaryRowF]

/-- The extended table (R110). -/
def extendedTable : List (List Descriptor) :=
  [extendedRow0, extendedRow1, extendedRow2, extendedRow3, extendedRow4, extendedRow5, extendedRow6, extendedRow7,
   extendedRow8, extendedRow9, extendedRowA, extendedRowB, extendedRowC, extendedRowD, extendedRowE, extendedRowF]

/-- primary(op): a descriptor, or none for the eleven undefined opcodes (R132). -/
def primary (op : Byte) : Option Descriptor :=
  (primaryTable.getD (op.toNat / 16) []).getD (op.toNat % 16) none

/-- What a lookup outside the extended table would answer; every byte is in the table (Laws/Decode, extended_opcode). -/
def extendedDefault : Descriptor := ⟨0x00#8, "RLC B", 2, 8, 0, fxZ00C, .plain .rlcB⟩

/-- extended(op2): never none (R134). -/
def extended (op2 : Byte) : Descriptor :=
  (extendedTable.getD (op2.toNat / 16) []).getD (op2.toNat % 16) extendedDefault

/-- The instruction of an entry without an immediate; every extended entry is one (R110). -/
def Form.instr : Form → Instr
  | .plain i => i
  | .byte f => f 0x00#8
  | .word f => f 0x0000#16

/-- The instruction an extended opcode stands for (R110). -/
def extendedInstr (op2 : Byte) : Instr := (extended op2).form.instr

/-- Why bytes decode to nothing: there are too few of them. Every byte sequence that is long enough is an entry (R112). -/
inductive DecodeError where
  /-- No byte at all. -/
  | noByte
  /-- Fewer bytes than the opcode's length (R103). -/
  | truncated (op : Byte)
  deriving DecidableEq, Repr

/-- Reads the immediate of an entry from the bytes after its opcode (R101, R108). -/
def decodeForm (op : Byte) (form : Form) (rest : List Byte) : Except DecodeError (Instr × List Byte) :=
  match form, rest with
  | .plain i, rest => .ok (i, rest)
  | .byte f, v :: rest => .ok (f v, rest)
  | .word f, lo :: hi :: rest => .ok (f (mkWord hi lo), rest)
  | .byte _, [] => .error (.truncated op)
  | .word _, _ => .error (.truncated op)

/-- One lookup in the primary table, the entry's operand bytes consumed; 0xCB is its dispatch entry (R109, R132). -/
def decodePrimary : List Byte → Except DecodeError (Instr × List Byte)
  | [] => .error .noByte
  | op :: rest =>
    match primary op with
    | none => .ok (.undefined op, rest)
    | some d => decodeForm op d.form rest

/-- One instruction from a byte sequence, and the bytes after it: the primary table, and after 0xCB the extended table (R103,
R113). 0xCB with no byte after it is the bare dispatch entry. -/
def decode (bytes : List Byte) : Except DecodeError (Instr × List Byte) :=
  match decodePrimary bytes with
  | .ok (.prefixCb, op2 :: rest) => .ok (extendedInstr op2, rest)
  | r => r

/-! The encoder, from the listings of R109 and R110. -/

/-- The bytes of an instruction, the first at the lowest address (R101). -/
def encode : Instr → List Byte
  | .ldBcD16 v => [0x01#8, loByte v, hiByte v]
  | .ldBD8 v => [0x06#8, v]
  | .ldMemA16Sp a => [0x08#8, loByte a, hiByte a]
  | .ldCD8 v => [0x0E#8, v]
  | .stop x => [0x10#8, x]
  | .ldDeD16 v => [0x11#8, loByte v, hiByte v]
  | .ldDD8 v => [0x16#8, v]
  | .jr e => [0x18#8, e]
  | .ldED8 v => [0x1E#8, v]
  | .jrNz e => [0x20#8, e]
  | .ldHlD16 v => [0x21#8, loByte v, hiByte v]
  | .ldHD8 v => [0x26#8, v]
  | .jrZ e => [0x28#8, e]
  | .ldLD8 v => [0x2E#8, v]
  | .jrNc e => [0x30#8, e]
  | .ldSpD16 v => [0x31#8, loByte v, hiByte v]
  | .ldMemHlD8 v => [0x36#8, v]
  | .jrC e => [0x38#8, e]
  | .ldAD8 v => [0x3E#8, v]
  | .jpNz a => [0xC2#8, loByte a, hiByte a]
  | .jp a => [0xC3#8, loByte a, hiByte a]
  | .callNz a => [0xC4#8, loByte a, hiByte a]
  | .addAD8 v => [0xC6#8, v]
  | .jpZ a => [0xCA#8, loByte a, hiByte a]
  | .callZ a => [0xCC#8, loByte a, hiByte a]
  | .call a => [0xCD#8, loByte a, hiByte a]
  | .adcAD8 v => [0xCE#8, v]
  | .jpNc a => [0xD2#8, loByte a, hiByte a]
  | .undefined op => [op]
  | .callNc a => [0xD4#8, loByte a, hiByte a]
  | .subD8 v => [0xD6#8, v]
  | .jpC a => [0xDA#8, loByte a, hiByte a]
  | .callC a => [0xDC#8, loByte a, hiByte a]
  | .sbcAD8 v => [0xDE#8, v]
  | .ldhMemA8A o => [0xE0#8, o]
  | .andD8 v => [0xE6#8, v]
  | .addSpE8 e => [0xE8#8, e]
  | .ldMemA16A a => [0xEA#8, loByte a, hiByte a]
  | .xorD8 v => [0xEE#8, v]
  | .ldhAMemA8 o => [0xF0#8, o]
  | .orD8 v => [0xF6#8, v]
  | .ldHlSpE8 e => [0xF8#8, e]
  | .ldAMemA16 a => [0xFA#8, loByte a, hiByte a]
  | .cpD8 v => [0xFE#8, v]
  | .nop => [0x00#8]
  | .ldMemBcA => [0x02#8]
  | .incBc => [0x03#8]
  | .incB => [0x04#8]
  | .decB => [0x05#8]
  | .rlca => [0x07#8]
  | .addHlBc => [0x09#8]
  | .ldAMemBc => [0x0A#8]
  | .decBc => [0x0B#8]
  | .incC => [0x0C#8]
  | .decC => [0x0D#8]
  | .rrca => [0x0F#8]
  | .ldMemDeA => [0x12#8]
  | .incDe => [0x13#8]
  | .incD => [0x14#8]
  | .decD => [0x15#8]
  | .rla => [0x17#8]
  | .addHlDe => [0x19#8]
  | .ldAMemDe => [0x1A#8]
  | .decDe => [0x1B#8]
  | .incE => [0x1C#8]
  | .decE => [0x1D#8]
  | .rra => [0x1F#8]
  | .ldMemHlIncA => [0x22#8]
  | .incHl => [0x23#8]
  | .incH => [0x24#8]
  | .decH => [0x25#8]
  | .daa => [0x27#8]
  | .addHlHl => [0x29#8]
  | .ldAMemHlInc => [0x2A#8]
  | .decHl => [0x2B#8]
  | .incL => [0x2C#8]
  | .decL => [0x2D#8]
  | .cpl => [0x2F#8]
  | .ldMemHlDecA => [0x32#8]
  | .incSp => [0x33#8]
  | .incMemHl => [0x34#8]
  | .decMemHl => [0x35#8]
  | .scf => [0x37#8]
  | .addHlSp => [0x39#8]
  | .ldAMemHlDec => [0x3A#8]
  | .decSp => [0x3B#8]
  | .incA => [0x3C#8]
  | .decA => [0x3D#8]
  | .ccf => [0x3F#8]
  | .ldBB => [0x40#8]
  | .ldBC => [0x41#8]
  | .ldBD => [0x42#8]
  | .ldBE => [0x43#8]
  | .ldBH => [0x44#8]
  | .ldBL => [0x45#8]
  | .ldBMemHl => [0x46#8]
  | .ldBA => [0x47#8]
  | .ldCB => [0x48#8]
  | .ldCC => [0x49#8]
  | .ldCD => [0x4A#8]
  | .ldCE => [0x4B#8]
  | .ldCH => [0x4C#8]
  | .ldCL => [0x4D#8]
  | .ldCMemHl => [0x4E#8]
  | .ldCA => [0x4F#8]
  | .ldDB => [0x50#8]
  | .ldDC => [0x51#8]
  | .ldDD => [0x52#8]
  | .ldDE => [0x53#8]
  | .ldDH => [0x54#8]
  | .ldDL => [0x55#8]
  | .ldDMemHl => [0x56#8]
  | .ldDA => [0x57#8]
  | .ldEB => [0x58#8]
  | .ldEC => [0x59#8]
  | .ldED => [0x5A#8]
  | .ldEE => [0x5B#8]
  | .ldEH => [0x5C#8]
  | .ldEL => [0x5D#8]
  | .ldEMemHl => [0x5E#8]
  | .ldEA => [0x5F#8]
  | .ldHB => [0x60#8]
  | .ldHC => [0x61#8]
  | .ldHD => [0x62#8]
  | .ldHE => [0x63#8]
  | .ldHH => [0x64#8]
  | .ldHL => [0x65#8]
  | .ldHMemHl => [0x66#8]
  | .ldHA => [0x67#8]
  | .ldLB => [0x68#8]
  | .ldLC => [0x69#8]
  | .ldLD => [0x6A#8]
  | .ldLE => [0x6B#8]
  | .ldLH => [0x6C#8]
  | .ldLL => [0x6D#8]
  | .ldLMemHl => [0x6E#8]
  | .ldLA => [0x6F#8]
  | .ldMemHlB => [0x70#8]
  | .ldMemHlC => [0x71#8]
  | .ldMemHlD => [0x72#8]
  | .ldMemHlE => [0x73#8]
  | .ldMemHlH => [0x74#8]
  | .ldMemHlL => [0x75#8]
  | .halt => [0x76#8]
  | .ldMemHlA => [0x77#8]
  | .ldAB => [0x78#8]
  | .ldAC => [0x79#8]
  | .ldAD => [0x7A#8]
  | .ldAE => [0x7B#8]
  | .ldAH => [0x7C#8]
  | .ldAL => [0x7D#8]
  | .ldAMemHl => [0x7E#8]
  | .ldAA => [0x7F#8]
  | .addAB => [0x80#8]
  | .addAC => [0x81#8]
  | .addAD => [0x82#8]
  | .addAE => [0x83#8]
  | .addAH => [0x84#8]
  | .addAL => [0x85#8]
  | .addAMemHl => [0x86#8]
  | .addAA => [0x87#8]
  | .adcAB => [0x88#8]
  | .adcAC => [0x89#8]
  | .adcAD => [0x8A#8]
  | .adcAE => [0x8B#8]
  | .adcAH => [0x8C#8]
  | .adcAL => [0x8D#8]
  | .adcAMemHl => [0x8E#8]
  | .adcAA => [0x8F#8]
  | .subB => [0x90#8]
  | .subC => [0x91#8]
  | .subD => [0x92#8]
  | .subE => [0x93#8]
  | .subH => [0x94#8]
  | .subL => [0x95#8]
  | .subMemHl => [0x96#8]
  | .subA => [0x97#8]
  | .sbcAB => [0x98#8]
  | .sbcAC => [0x99#8]
  | .sbcAD => [0x9A#8]
  | .sbcAE => [0x9B#8]
  | .sbcAH => [0x9C#8]
  | .sbcAL => [0x9D#8]
  | .sbcAMemHl => [0x9E#8]
  | .sbcAA => [0x9F#8]
  | .andB => [0xA0#8]
  | .andC => [0xA1#8]
  | .andD => [0xA2#8]
  | .andE => [0xA3#8]
  | .andH => [0xA4#8]
  | .andL => [0xA5#8]
  | .andMemHl => [0xA6#8]
  | .andA => [0xA7#8]
  | .xorB => [0xA8#8]
  | .xorC => [0xA9#8]
  | .xorD => [0xAA#8]
  | .xorE => [0xAB#8]
  | .xorH => [0xAC#8]
  | .xorL => [0xAD#8]
  | .xorMemHl => [0xAE#8]
  | .xorA => [0xAF#8]
  | .orB => [0xB0#8]
  | .orC => [0xB1#8]
  | .orD => [0xB2#8]
  | .orE => [0xB3#8]
  | .orH => [0xB4#8]
  | .orL => [0xB5#8]
  | .orMemHl => [0xB6#8]
  | .orA => [0xB7#8]
  | .cpB => [0xB8#8]
  | .cpC => [0xB9#8]
  | .cpD => [0xBA#8]
  | .cpE => [0xBB#8]
  | .cpH => [0xBC#8]
  | .cpL => [0xBD#8]
  | .cpMemHl => [0xBE#8]
  | .cpA => [0xBF#8]
  | .retNz => [0xC0#8]
  | .popBc => [0xC1#8]
  | .pushBc => [0xC5#8]
  | .rst00 => [0xC7#8]
  | .retZ => [0xC8#8]
  | .ret => [0xC9#8]
  | .prefixCb => [0xCB#8]
  | .rst08 => [0xCF#8]
  | .retNc => [0xD0#8]
  | .popDe => [0xD1#8]
  | .pushDe => [0xD5#8]
  | .rst10 => [0xD7#8]
  | .retC => [0xD8#8]
  | .reti => [0xD9#8]
  | .rst18 => [0xDF#8]
  | .popHl => [0xE1#8]
  | .ldMemCA => [0xE2#8]
  | .pushHl => [0xE5#8]
  | .rst20 => [0xE7#8]
  | .jpHl => [0xE9#8]
  | .rst28 => [0xEF#8]
  | .popAf => [0xF1#8]
  | .ldAMemC => [0xF2#8]
  | .di => [0xF3#8]
  | .pushAf => [0xF5#8]
  | .rst30 => [0xF7#8]
  | .ldSpHl => [0xF9#8]
  | .ei => [0xFB#8]
  | .rst38 => [0xFF#8]
  | .rlcB => [0xCB#8, 0x00#8]
  | .rlcC => [0xCB#8, 0x01#8]
  | .rlcD => [0xCB#8, 0x02#8]
  | .rlcE => [0xCB#8, 0x03#8]
  | .rlcH => [0xCB#8, 0x04#8]
  | .rlcL => [0xCB#8, 0x05#8]
  | .rlcMemHl => [0xCB#8, 0x06#8]
  | .rlcA => [0xCB#8, 0x07#8]
  | .rrcB => [0xCB#8, 0x08#8]
  | .rrcC => [0xCB#8, 0x09#8]
  | .rrcD => [0xCB#8, 0x0A#8]
  | .rrcE => [0xCB#8, 0x0B#8]
  | .rrcH => [0xCB#8, 0x0C#8]
  | .rrcL => [0xCB#8, 0x0D#8]
  | .rrcMemHl => [0xCB#8, 0x0E#8]
  | .rrcA => [0xCB#8, 0x0F#8]
  | .rlB => [0xCB#8, 0x10#8]
  | .rlC => [0xCB#8, 0x11#8]
  | .rlD => [0xCB#8, 0x12#8]
  | .rlE => [0xCB#8, 0x13#8]
  | .rlH => [0xCB#8, 0x14#8]
  | .rlL => [0xCB#8, 0x15#8]
  | .rlMemHl => [0xCB#8, 0x16#8]
  | .rlA => [0xCB#8, 0x17#8]
  | .rrB => [0xCB#8, 0x18#8]
  | .rrC => [0xCB#8, 0x19#8]
  | .rrD => [0xCB#8, 0x1A#8]
  | .rrE => [0xCB#8, 0x1B#8]
  | .rrH => [0xCB#8, 0x1C#8]
  | .rrL => [0xCB#8, 0x1D#8]
  | .rrMemHl => [0xCB#8, 0x1E#8]
  | .rrA => [0xCB#8, 0x1F#8]
  | .slaB => [0xCB#8, 0x20#8]
  | .slaC => [0xCB#8, 0x21#8]
  | .slaD => [0xCB#8, 0x22#8]
  | .slaE => [0xCB#8, 0x23#8]
  | .slaH => [0xCB#8, 0x24#8]
  | .slaL => [0xCB#8, 0x25#8]
  | .slaMemHl => [0xCB#8, 0x26#8]
  | .slaA => [0xCB#8, 0x27#8]
  | .sraB => [0xCB#8, 0x28#8]
  | .sraC => [0xCB#8, 0x29#8]
  | .sraD => [0xCB#8, 0x2A#8]
  | .sraE => [0xCB#8, 0x2B#8]
  | .sraH => [0xCB#8, 0x2C#8]
  | .sraL => [0xCB#8, 0x2D#8]
  | .sraMemHl => [0xCB#8, 0x2E#8]
  | .sraA => [0xCB#8, 0x2F#8]
  | .swapB => [0xCB#8, 0x30#8]
  | .swapC => [0xCB#8, 0x31#8]
  | .swapD => [0xCB#8, 0x32#8]
  | .swapE => [0xCB#8, 0x33#8]
  | .swapH => [0xCB#8, 0x34#8]
  | .swapL => [0xCB#8, 0x35#8]
  | .swapMemHl => [0xCB#8, 0x36#8]
  | .swapA => [0xCB#8, 0x37#8]
  | .srlB => [0xCB#8, 0x38#8]
  | .srlC => [0xCB#8, 0x39#8]
  | .srlD => [0xCB#8, 0x3A#8]
  | .srlE => [0xCB#8, 0x3B#8]
  | .srlH => [0xCB#8, 0x3C#8]
  | .srlL => [0xCB#8, 0x3D#8]
  | .srlMemHl => [0xCB#8, 0x3E#8]
  | .srlA => [0xCB#8, 0x3F#8]
  | .bit0B => [0xCB#8, 0x40#8]
  | .bit0C => [0xCB#8, 0x41#8]
  | .bit0D => [0xCB#8, 0x42#8]
  | .bit0E => [0xCB#8, 0x43#8]
  | .bit0H => [0xCB#8, 0x44#8]
  | .bit0L => [0xCB#8, 0x45#8]
  | .bit0MemHl => [0xCB#8, 0x46#8]
  | .bit0A => [0xCB#8, 0x47#8]
  | .bit1B => [0xCB#8, 0x48#8]
  | .bit1C => [0xCB#8, 0x49#8]
  | .bit1D => [0xCB#8, 0x4A#8]
  | .bit1E => [0xCB#8, 0x4B#8]
  | .bit1H => [0xCB#8, 0x4C#8]
  | .bit1L => [0xCB#8, 0x4D#8]
  | .bit1MemHl => [0xCB#8, 0x4E#8]
  | .bit1A => [0xCB#8, 0x4F#8]
  | .bit2B => [0xCB#8, 0x50#8]
  | .bit2C => [0xCB#8, 0x51#8]
  | .bit2D => [0xCB#8, 0x52#8]
  | .bit2E => [0xCB#8, 0x53#8]
  | .bit2H => [0xCB#8, 0x54#8]
  | .bit2L => [0xCB#8, 0x55#8]
  | .bit2MemHl => [0xCB#8, 0x56#8]
  | .bit2A => [0xCB#8, 0x57#8]
  | .bit3B => [0xCB#8, 0x58#8]
  | .bit3C => [0xCB#8, 0x59#8]
  | .bit3D => [0xCB#8, 0x5A#8]
  | .bit3E => [0xCB#8, 0x5B#8]
  | .bit3H => [0xCB#8, 0x5C#8]
  | .bit3L => [0xCB#8, 0x5D#8]
  | .bit3MemHl => [0xCB#8, 0x5E#8]
  | .bit3A => [0xCB#8, 0x5F#8]
  | .bit4B => [0xCB#8, 0x60#8]
  | .bit4C => [0xCB#8, 0x61#8]
  | .bit4D => [0xCB#8, 0x62#8]
  | .bit4E => [0xCB#8, 0x63#8]
  | .bit4H => [0xCB#8, 0x64#8]
  | .bit4L => [0xCB#8, 0x65#8]
  | .bit4MemHl => [0xCB#8, 0x66#8]
  | .bit4A => [0xCB#8, 0x67#8]
  | .bit5B => [0xCB#8, 0x68#8]
  | .bit5C => [0xCB#8, 0x69#8]
  | .bit5D => [0xCB#8, 0x6A#8]
  | .bit5E => [0xCB#8, 0x6B#8]
  | .bit5H => [0xCB#8, 0x6C#8]
  | .bit5L => [0xCB#8, 0x6D#8]
  | .bit5MemHl => [0xCB#8, 0x6E#8]
  | .bit5A => [0xCB#8, 0x6F#8]
  | .bit6B => [0xCB#8, 0x70#8]
  | .bit6C => [0xCB#8, 0x71#8]
  | .bit6D => [0xCB#8, 0x72#8]
  | .bit6E => [0xCB#8, 0x73#8]
  | .bit6H => [0xCB#8, 0x74#8]
  | .bit6L => [0xCB#8, 0x75#8]
  | .bit6MemHl => [0xCB#8, 0x76#8]
  | .bit6A => [0xCB#8, 0x77#8]
  | .bit7B => [0xCB#8, 0x78#8]
  | .bit7C => [0xCB#8, 0x79#8]
  | .bit7D => [0xCB#8, 0x7A#8]
  | .bit7E => [0xCB#8, 0x7B#8]
  | .bit7H => [0xCB#8, 0x7C#8]
  | .bit7L => [0xCB#8, 0x7D#8]
  | .bit7MemHl => [0xCB#8, 0x7E#8]
  | .bit7A => [0xCB#8, 0x7F#8]
  | .res0B => [0xCB#8, 0x80#8]
  | .res0C => [0xCB#8, 0x81#8]
  | .res0D => [0xCB#8, 0x82#8]
  | .res0E => [0xCB#8, 0x83#8]
  | .res0H => [0xCB#8, 0x84#8]
  | .res0L => [0xCB#8, 0x85#8]
  | .res0MemHl => [0xCB#8, 0x86#8]
  | .res0A => [0xCB#8, 0x87#8]
  | .res1B => [0xCB#8, 0x88#8]
  | .res1C => [0xCB#8, 0x89#8]
  | .res1D => [0xCB#8, 0x8A#8]
  | .res1E => [0xCB#8, 0x8B#8]
  | .res1H => [0xCB#8, 0x8C#8]
  | .res1L => [0xCB#8, 0x8D#8]
  | .res1MemHl => [0xCB#8, 0x8E#8]
  | .res1A => [0xCB#8, 0x8F#8]
  | .res2B => [0xCB#8, 0x90#8]
  | .res2C => [0xCB#8, 0x91#8]
  | .res2D => [0xCB#8, 0x92#8]
  | .res2E => [0xCB#8, 0x93#8]
  | .res2H => [0xCB#8, 0x94#8]
  | .res2L => [0xCB#8, 0x95#8]
  | .res2MemHl => [0xCB#8, 0x96#8]
  | .res2A => [0xCB#8, 0x97#8]
  | .res3B => [0xCB#8, 0x98#8]
  | .res3C => [0xCB#8, 0x99#8]
  | .res3D => [0xCB#8, 0x9A#8]
  | .res3E => [0xCB#8, 0x9B#8]
  | .res3H => [0xCB#8, 0x9C#8]
  | .res3L => [0xCB#8, 0x9D#8]
  | .res3MemHl => [0xCB#8, 0x9E#8]
  | .res3A => [0xCB#8, 0x9F#8]
  | .res4B => [0xCB#8, 0xA0#8]
  | .res4C => [0xCB#8, 0xA1#8]
  | .res4D => [0xCB#8, 0xA2#8]
  | .res4E => [0xCB#8, 0xA3#8]
  | .res4H => [0xCB#8, 0xA4#8]
  | .res4L => [0xCB#8, 0xA5#8]
  | .res4MemHl => [0xCB#8, 0xA6#8]
  | .res4A => [0xCB#8, 0xA7#8]
  | .res5B => [0xCB#8, 0xA8#8]
  | .res5C => [0xCB#8, 0xA9#8]
  | .res5D => [0xCB#8, 0xAA#8]
  | .res5E => [0xCB#8, 0xAB#8]
  | .res5H => [0xCB#8, 0xAC#8]
  | .res5L => [0xCB#8, 0xAD#8]
  | .res5MemHl => [0xCB#8, 0xAE#8]
  | .res5A => [0xCB#8, 0xAF#8]
  | .res6B => [0xCB#8, 0xB0#8]
  | .res6C => [0xCB#8, 0xB1#8]
  | .res6D => [0xCB#8, 0xB2#8]
  | .res6E => [0xCB#8, 0xB3#8]
  | .res6H => [0xCB#8, 0xB4#8]
  | .res6L => [0xCB#8, 0xB5#8]
  | .res6MemHl => [0xCB#8, 0xB6#8]
  | .res6A => [0xCB#8, 0xB7#8]
  | .res7B => [0xCB#8, 0xB8#8]
  | .res7C => [0xCB#8, 0xB9#8]
  | .res7D => [0xCB#8, 0xBA#8]
  | .res7E => [0xCB#8, 0xBB#8]
  | .res7H => [0xCB#8, 0xBC#8]
  | .res7L => [0xCB#8, 0xBD#8]
  | .res7MemHl => [0xCB#8, 0xBE#8]
  | .res7A => [0xCB#8, 0xBF#8]
  | .set0B => [0xCB#8, 0xC0#8]
  | .set0C => [0xCB#8, 0xC1#8]
  | .set0D => [0xCB#8, 0xC2#8]
  | .set0E => [0xCB#8, 0xC3#8]
  | .set0H => [0xCB#8, 0xC4#8]
  | .set0L => [0xCB#8, 0xC5#8]
  | .set0MemHl => [0xCB#8, 0xC6#8]
  | .set0A => [0xCB#8, 0xC7#8]
  | .set1B => [0xCB#8, 0xC8#8]
  | .set1C => [0xCB#8, 0xC9#8]
  | .set1D => [0xCB#8, 0xCA#8]
  | .set1E => [0xCB#8, 0xCB#8]
  | .set1H => [0xCB#8, 0xCC#8]
  | .set1L => [0xCB#8, 0xCD#8]
  | .set1MemHl => [0xCB#8, 0xCE#8]
  | .set1A => [0xCB#8, 0xCF#8]
  | .set2B => [0xCB#8, 0xD0#8]
  | .set2C => [0xCB#8, 0xD1#8]
  | .set2D => [0xCB#8, 0xD2#8]
  | .set2E => [0xCB#8, 0xD3#8]
  | .set2H => [0xCB#8, 0xD4#8]
  | .set2L => [0xCB#8, 0xD5#8]
  | .set2MemHl => [0xCB#8, 0xD6#8]
  | .set2A => [0xCB#8, 0xD7#8]
  | .set3B => [0xCB#8, 0xD8#8]
  | .set3C => [0xCB#8, 0xD9#8]
  | .set3D => [0xCB#8, 0xDA#8]
  | .set3E => [0xCB#8, 0xDB#8]
  | .set3H => [0xCB#8, 0xDC#8]
  | .set3L => [0xCB#8, 0xDD#8]
  | .set3MemHl => [0xCB#8, 0xDE#8]
  | .set3A => [0xCB#8, 0xDF#8]
  | .set4B => [0xCB#8, 0xE0#8]
  | .set4C => [0xCB#8, 0xE1#8]
  | .set4D => [0xCB#8, 0xE2#8]
  | .set4E => [0xCB#8, 0xE3#8]
  | .set4H => [0xCB#8, 0xE4#8]
  | .set4L => [0xCB#8, 0xE5#8]
  | .set4MemHl => [0xCB#8, 0xE6#8]
  | .set4A => [0xCB#8, 0xE7#8]
  | .set5B => [0xCB#8, 0xE8#8]
  | .set5C => [0xCB#8, 0xE9#8]
  | .set5D => [0xCB#8, 0xEA#8]
  | .set5E => [0xCB#8, 0xEB#8]
  | .set5H => [0xCB#8, 0xEC#8]
  | .set5L => [0xCB#8, 0xED#8]
  | .set5MemHl => [0xCB#8, 0xEE#8]
  | .set5A => [0xCB#8, 0xEF#8]
  | .set6B => [0xCB#8, 0xF0#8]
  | .set6C => [0xCB#8, 0xF1#8]
  | .set6D => [0xCB#8, 0xF2#8]
  | .set6E => [0xCB#8, 0xF3#8]
  | .set6H => [0xCB#8, 0xF4#8]
  | .set6L => [0xCB#8, 0xF5#8]
  | .set6MemHl => [0xCB#8, 0xF6#8]
  | .set6A => [0xCB#8, 0xF7#8]
  | .set7B => [0xCB#8, 0xF8#8]
  | .set7C => [0xCB#8, 0xF9#8]
  | .set7D => [0xCB#8, 0xFA#8]
  | .set7E => [0xCB#8, 0xFB#8]
  | .set7H => [0xCB#8, 0xFC#8]
  | .set7L => [0xCB#8, 0xFD#8]
  | .set7MemHl => [0xCB#8, 0xFE#8]
  | .set7A => [0xCB#8, 0xFF#8]

/-- The table entry of an instruction, none for an undefined opcode (R109 to R111). -/
def descriptorOf (i : Instr) : Option Descriptor :=
  match encode i with
  | [] => none
  | [op] => primary op
  | op :: op2 :: _ => if op = 0xCB#8 then some (extended op2) else primary op

/-- An instruction's length in bytes, the 0xCB byte counted; an undefined opcode is 1 byte long (R103). -/
def Instr.length (i : Instr) : Nat :=
  match descriptorOf i with
  | some d => d.length
  | none => 1

/-! The table's words (log entry 7). -/

/-- The longest instruction's bytes (three) of an instruction whose table word is w: a row of 8 bits is the opcode byte; a row
of 16 bits has the first byte in the most significant position, as R117 numbers its match (0xCB00 | opcode), and is read with
the first byte least significant where its high byte is not 0xCB; every byte above is 0. -/
def tableWordBytes (nbits w : Nat) : List Byte :=
  let w := w % 2 ^ nbits
  if nbits = 16 && w / 0x100 = 0xCB then [0xCB#8, BitVec.ofNat 8 w, 0x00#8]
  else [BitVec.ofNat 8 w, BitVec.ofNat 8 (w / 0x100), BitVec.ofNat 8 (w / 0x10000)]

/-- The instruction the decoder reads from a table word: a row of at most 8 bits is looked up in the primary table, so 0xCB
alone is its dispatch entry; a wider row is decoded through the extended table after 0xCB (R117, R132, R134). -/
def decodeTableWord (nbits w : Nat) : Option Instr :=
  match (if nbits ≤ 8 then decodePrimary (tableWordBytes nbits w) else decode (tableWordBytes nbits w)) with
  | .ok (i, _) => some i
  | .error _ => none

end Sys2Proof
end

