-- ==== Sys2Proof/Machine/Bits.lean ====
section
/-! DEFINITION. Byte and word helpers: sign and zero extension, and the byte functions behind the register file's bit
operations (00_scope R9, R12; 10_state R30). The byte order of a word is in Decode (hiByte, loByte, mkWord). -/
namespace Sys2Proof.Machine

/-- sext_8(v), reduced mod 2^16 (R12). -/
def sext8 (v : Byte) : Word := v.signExtend 16

/-- zext_16(v) (R12). -/
def zext16 (v : Byte) : Word := v.zeroExtend 16

/-- The high-page address 0xFF00 + o (R108). -/
def highPage (o : Byte) : Word := 0xFF00#16 + zext16 o

/-- A bit as a byte, 0 or 1. -/
def bitByte (b : Bool) : Byte := if b then 0x01#8 else 0x00#8

/-- v[b] (R9, R30 test). -/
def testBit (v : Byte) (b : Nat) : Bool := v.getLsbD b

/-- v | (1 << b) (R30 set). -/
def setBit (v : Byte) (b : Nat) : Byte := v ||| (0x01#8 <<< b)

/-- v & ~(1 << b) (R30 reset). -/
def resetBit (v : Byte) (b : Nat) : Byte := v &&& ~~~(0x01#8 <<< b)

/-- (v[3:0] << 4) | v[7:4] (R30 swapNibbles). -/
def swapNibbles (v : Byte) : Byte := (v <<< 4) ||| (v >>> 4)

/-- Bit 0 fills with 0 (R30 shiftLeft). -/
def shiftLeft (v : Byte) : Byte := v <<< 1

/-- Bit 7 fills with 0 (R30 shiftRightLogical). -/
def shiftRightLogical (v : Byte) : Byte := v >>> 1

/-- Defined identically to the logical shift (R30 shiftRightArithmetic). -/
def shiftRightArithmetic (v : Byte) : Byte := shiftRightLogical v

end Sys2Proof.Machine
end

