-- ==== Sys2Proof/Config.lean ====
section
/-! DEFINITION. The configuration inputs of the block, constant while it runs (00_scope R8; 10_state R52). The state holds
them, so that a statement about every state is a statement about every configuration. -/
namespace Sys2Proof

/-- Memory contents: (address, byte) cells, addresses rising, no cell equal to what an unlisted address reads as. -/
abbrev Memory := List Host.Cell

/-- The configuration inputs (R8, R52). A BIOS image has exactly 256 bytes; any other length is refused before the block has
a state (Machine.powerOn). -/
structure Config where
  /-- BIOS[0..255], write-protected (R38). -/
  bios : Vector Byte 256
  /-- ROM[0..n-1], n >= 0, read-only, mapped flat (R38, R52). -/
  rom : List Byte
  /-- ROM_PAD_BYTE: what a ROM-range read returns at an index at or beyond n (R8, R65). -/
  romPad : Byte
  /-- RAM_INIT: the contents of WRAM, ERAM and ZRAM at reset (R8, R39). -/
  ramInit : Memory
  deriving DecidableEq, Repr

/-- The configuration State.reset stands on. DESIGN CHOICE (log entries 1 and 2, unsafe): the spec fixes none of the four;
these are the defaults of its test vectors (95_test_vectors section 2): BIOS all 0x00, ROM empty, pad 0xFF, RAM all 0x00. -/
def Config.initial : Config where
  bios := Vector.replicate 256 0x00#8
  rom := []
  romPad := 0xFF#8
  ramInit := []

end Sys2Proof
end

