-- ==== Sys2Proof/Operand.lean ====
section
/-! DEFINITION. The names an instruction's fields stand for: registers, the r8 operand with its (HL) form, register pairs,
conditions, and the operation codes of the accumulator and shift groups (10_state R20, R28; 30_encoding R104 to R106, R110;
43_alu8 R180). -/
namespace Sys2Proof

/-- The seven general 8-bit registers (R20). -/
inductive Reg8 where
  | b | c | d | e | h | l | a
  deriving DecidableEq, Repr

/-- The r8 operand: a register, or the byte in memory at HL (code 6) (R104). -/
inductive R8 where
  | b | c | d | e | h | l | hl | a
  deriving DecidableEq, Repr

/-- The four pair views; also the rp2 codes of PUSH and POP in order (R28, R105). -/
inductive Pair where
  | bc | de | hl | af
  deriving DecidableEq, Repr

/-- The rp codes: three pairs and SP (R105). -/
inductive Rp where
  | bc | de | hl | sp
  deriving DecidableEq, Repr

/-- The condition codes of JR, JP, CALL and RET (R14, R106). -/
inductive Cond where
  | nz | z | nc | c
  deriving DecidableEq, Repr

/-- The operation codes of the accumulator group (R180). -/
inductive AluOp where
  | add | adc | sub | sbc | and | xor | or | cp
  deriving DecidableEq, Repr

/-- The operation codes of the extended shift and rotate group (R110). -/
inductive ShiftOp where
  | rlc | rrc | rl | rr | sla | sra | swap | srl
  deriving DecidableEq, Repr

/-- The r8 code of a register (R104). -/
def Reg8.code : Reg8 → Nat
  | .b => 0 | .c => 1 | .d => 2 | .e => 3 | .h => 4 | .l => 5 | .a => 7

/-- The r8 code of an operand (R104). -/
def R8.code : R8 → Nat
  | .b => 0 | .c => 1 | .d => 2 | .e => 3 | .h => 4 | .l => 5 | .hl => 6 | .a => 7

/-- A register as an r8 operand (R104). -/
def Reg8.toR8 : Reg8 → R8
  | .b => .b | .c => .c | .d => .d | .e => .e | .h => .h | .l => .l | .a => .a

/-- The rp2 code (R105). -/
def Pair.code : Pair → Nat
  | .bc => 0 | .de => 1 | .hl => 2 | .af => 3

/-- The rp code (R105). -/
def Rp.code : Rp → Nat
  | .bc => 0 | .de => 1 | .hl => 2 | .sp => 3

/-- The condition code cc (R106). -/
def Cond.code : Cond → Nat
  | .nz => 0 | .z => 1 | .nc => 2 | .c => 3

/-- The accumulator operation code o (R180). -/
def AluOp.code : AluOp → Nat
  | .add => 0 | .adc => 1 | .sub => 2 | .sbc => 3 | .and => 4 | .xor => 5 | .or => 6 | .cp => 7

/-- The shift operation code y (R110). -/
def ShiftOp.code : ShiftOp → Nat
  | .rlc => 0 | .rrc => 1 | .rl => 2 | .rr => 3 | .sla => 4 | .sra => 5 | .swap => 6 | .srl => 7

end Sys2Proof
end

