-- ==== Sys2Proof/Machine/State.lean ====
section
/-! DEFINITION. The state of the block, plain data, holding every element of 10_state R42, the configuration inputs of R52 and
the event output of R54; and the state right after reset (70_reset_and_hazards R290, R291). -/
namespace Sys2Proof.Machine

/-- The four flags packed into F[7:4]; F[3:0] is always 0 and so has no storage (R23, R25). -/
structure Flags where
  /-- Zero, F[7]. -/
  z : Bool
  /-- Subtraction, F[6]. -/
  n : Bool
  /-- Half-carry, F[5]. -/
  hf : Bool
  /-- Carry, F[4]. -/
  cf : Bool
  deriving DecidableEq, Repr

/-- The register file: seven 8-bit registers, the flags, PC and SP (R7, R20, R23). The pairs AF, BC, DE, HL are views with no
storage (R28, R29). -/
structure RegFile where
  a : Byte
  b : Byte
  c : Byte
  d : Byte
  e : Byte
  h : Byte
  l : Byte
  /-- The flags register F (R23). -/
  f : Flags
  /-- The program counter (R140). -/
  pc : Word
  /-- The stack pointer (R177). -/
  sp : Word
  deriving DecidableEq, Repr

/-- The memory bus: the configured images, the three RAM stores and the BIOS overlay latch (R38, R39). -/
structure Bus where
  /-- BIOS, ROM, ROM_PAD_BYTE and RAM_INIT; they never change while the block runs (R38, R52). -/
  cfg : Config
  /-- WRAM, ERAM and ZRAM: a byte is keyed by its address in 0xC000-0xDFFF, 0xA000-0xBFFF or 0xFF80-0xFFFF. -/
  ram : Memory
  /-- bios_overlay_active, the one-way latch (R38, R66). -/
  biosOverlay : Bool
  deriving DecidableEq, Repr

/-- The sequencer's two states (R37). -/
inductive SeqState where
  | fetchPrimary
  | fetchExtended
  deriving DecidableEq, Repr

/-- The diagnostic events (R54, R271). -/
inductive Event where
  /-- Code 1: an undefined primary opcode and the address it was fetched from (R135). -/
  | undefinedOpcode (op : Byte) (addr : Word)
  /-- Code 2: a register-file bit operation with an index outside 0 to 7 (R31). -/
  | invalidBitIndex (r : Reg8) (b : Int)
  /-- Code 3: a byte write to 0x0000-0x00FF while the latch is 1 (R67). -/
  | romWriteRejected (addr : Word) (v : Byte)
  deriving DecidableEq, Repr

/-- The whole state of the block (R42, R54). -/
structure State where
  rf : RegFile
  bus : Bus
  /-- Interrupt master enable, written by DI, EI and RETI, read by nothing (R35). -/
  ime : Bool
  /-- Set by HALT and STOP, cleared only by reset (R36). -/
  halted : Bool
  /-- Fetch-primary at every step boundary (R37). -/
  seq : SeqState
  /-- The cycle counter, unbounded, read by no rule (R40). -/
  cycles : Nat
  /-- The event output, oldest first (R54). -/
  events : List Event
  deriving DecidableEq, Repr

/-- No fault exists: no instruction and no bus access traps, and every address is mapped (R270, R272, R82). Nothing raises
one, so the type has no constructor; that is safe, since a claim can assume no stop. -/
inductive Fault
  deriving DecidableEq, Repr

/-- The refusals. -/
inductive Refusal where
  /-- Raised by exec's arm of an instruction that has no meaning yet; no arm does. Safe: nothing can be proved of such a step. -/
  | notModelled (mnemonic : String)
  /-- Raised by powerOn for a BIOS image whose length is not 256: the configuration is ill-formed and the block has no state
  to run (R52). Safe: it is the spec's own refusal. -/
  | biosLength (n : Nat)
  deriving DecidableEq, Repr

/-- What a step or a meaning answers. -/
abbrev Result := Host.Outcome State Fault Refusal

/-- The state a configuration starts in: every element at its value in R42, and no event reported yet (R290, R291). -/
def State.ofConfig (cfg : Config) : State where
  rf := { a := 0x00#8, b := 0x00#8, c := 0x00#8, d := 0x00#8, e := 0x00#8, h := 0x00#8, l := 0x00#8,
          f := { z := false, n := false, hf := false, cf := false }, pc := 0x0000#16, sp := 0x0000#16 }
  bus := { cfg := cfg, ram := cfg.ramInit, biosOverlay := true }
  ime := false
  halted := false
  seq := .fetchPrimary
  cycles := 0
  events := []

/-- The machine right after reset (R290), for the configuration of log entries 1 and 2. -/
def State.reset : State := State.ofConfig Config.initial

end Sys2Proof.Machine
end

