-- ==== Sys2Proof/Machine/Flags.lean ====
section
/-! DEFINITION. F as a byte, conditions, the carry helpers and every flag computation and arithmetic result of the instruction
set (10_state R23, R25, R32; 00_scope R14; 43_alu8; 44_alu16; 45_rotate_shift_bit). Results are computed exactly, in Nat or Int,
and narrowed once. -/
namespace Sys2Proof.Machine

/-- F = Z : N : Hf : Cf : 0000 (R23). -/
def Flags.toByte (f : Flags) : Byte :=
  (bitByte f.z <<< 7) ||| (bitByte f.n <<< 6) ||| (bitByte f.hf <<< 5) ||| (bitByte f.cf <<< 4)

/-- A write of a byte to F keeps v & 0xF0 (R25). -/
def Flags.ofByte (v : Byte) : Flags :=
  { z := testBit v 7, n := testBit v 6, hf := testBit v 5, cf := testBit v 4 }

/-- cond(cc) (R14). -/
def condHolds : Cond → Flags → Bool
  | .nz, f => !f.z
  | .z, f => f.z
  | .nc, f => !f.cf
  | .c, f => f.cf

/-! The carry helpers (R32). -/

/-- hasCarry_8: the exact result exceeds 0xFF. -/
def hasCarry8 (raw : Nat) : Bool := raw > 0xFF

/-- hasCarry_16: the exact result exceeds 0xFFFF. -/
def hasCarry16 (raw : Nat) : Bool := raw > 0xFFFF

/-- hasHalfCarry_8: a carry out of bit 3. -/
def hasHalfCarry8 (a b c : Nat) : Bool := a % 0x10 + b % 0x10 + c > 0x0F

/-- hasHalfCarry_16: a carry out of bit 11. -/
def hasHalfCarry16 (a b c : Nat) : Bool := a % 0x1000 + b % 0x1000 + c > 0x0FFF

/-- The borrow of a - b - c (R32, D4). -/
def hasBorrow8 (a b c : Nat) : Bool := a < b + c

/-- The borrow from bit 4 of a - b - c (R32, D4). -/
def hasHalfBorrow8 (a b c : Nat) : Bool := a % 0x10 < b % 0x10 + c

/-! 8-bit arithmetic and logic (R181 to R191). -/

/-- (a + v + c) mod 256 (R181, R182). -/
def addResult (a v : Byte) (c : Nat) : Byte := BitVec.ofNat 8 (a.toNat + v.toNat + c)

/-- The flags of an addition (R181, R182). -/
def addFlags (a v : Byte) (c : Nat) : Flags :=
  { z := addResult a v c = 0x00#8, n := false,
    hf := hasHalfCarry8 a.toNat v.toNat c, cf := hasCarry8 (a.toNat + v.toNat + c) }

/-- (a - v - c) mod 256 (R183, R184). -/
def subResult (a v : Byte) (c : Nat) : Byte := BitVec.ofInt 8 ((a.toNat : Int) - v.toNat - c)

/-- The flags of a subtraction or comparison (R183, R184, R188). -/
def subFlags (a v : Byte) (c : Nat) : Flags :=
  { z := subResult a v c = 0x00#8, n := true,
    hf := hasHalfBorrow8 a.toNat v.toNat c, cf := hasBorrow8 a.toNat v.toNat c }

/-- The flags of AND: Hf = 1 (R185). -/
def andFlags (r : Byte) : Flags := { z := r = 0x00#8, n := false, hf := true, cf := false }

/-- The flags of XOR and OR (R186, R187). -/
def orFlags (r : Byte) : Flags := { z := r = 0x00#8, n := false, hf := false, cf := false }

/-- The flags of an 8-bit increment of v; Cf unchanged (R190, R192). -/
def incFlags (v : Byte) (f : Flags) : Flags :=
  { z := v + 0x01#8 = 0x00#8, n := false, hf := v.toNat % 0x10 = 0x0F, cf := f.cf }

/-- The flags of an 8-bit decrement of v; Cf unchanged (R191, R193). -/
def decFlags (v : Byte) (f : Flags) : Flags :=
  { z := v - 0x01#8 = 0x00#8, n := true, hf := v.toNat % 0x10 = 0x00, cf := f.cf }

/-! DAA (R194). -/

/-- Whether the low digit is corrected by 0x06. -/
def daaLow (a : Byte) (f : Flags) : Bool := f.hf || (!f.n && a.toNat % 0x10 > 0x09)

/-- Whether the high digit is corrected by 0x60, which also sets Cf. -/
def daaHigh (a : Byte) (f : Flags) : Bool := f.cf || (!f.n && a.toNat > 0x99)

/-- The correction. -/
def daaCorrection (a : Byte) (f : Flags) : Byte :=
  (if daaLow a f then 0x06#8 else 0x00#8) ||| (if daaHigh a f then 0x60#8 else 0x00#8)

/-- The adjusted A. -/
def daaResult (a : Byte) (f : Flags) : Byte :=
  if f.n then a - daaCorrection a f else a + daaCorrection a f

/-- The flags of DAA: N unchanged, Hf = 0. -/
def daaFlags (a : Byte) (f : Flags) : Flags :=
  { z := daaResult a f = 0x00#8, n := f.n, hf := false, cf := daaHigh a f }

/-! 16-bit arithmetic (R202, R203, R173). -/

/-- (h + v) mod 2^16 (R202). -/
def add16Result (h v : Word) : Word := BitVec.ofNat 16 (h.toNat + v.toNat)

/-- The flags of ADD HL,rr: Z unchanged, Hf from bit 11 (R202). -/
def add16Flags (h v : Word) (f : Flags) : Flags :=
  { z := f.z, n := false, hf := hasHalfCarry16 h.toNat v.toNat 0, cf := hasCarry16 (h.toNat + v.toNat) }

/-- SP + sext_8(e), mod 2^16 (R173, R203). -/
def spPlus (sp : Word) (e : Byte) : Word := sp + sext8 e

/-- The flags of ADD SP,e8 and LD HL,SP+e8: the unsigned addition of e to the low byte of SP (R173, R203, D29). -/
def spPlusFlags (sp : Word) (e : Byte) : Flags :=
  { z := false, n := false,
    hf := hasHalfCarry8 sp.toNat e.toNat 0, cf := hasCarry8 (sp.toNat % 0x100 + e.toNat) }

/-! Rotates, shifts and bit tests (R210, R213 to R225). Each operation answers its result and the carry it leaves. -/

/-- RLC: old bit 7 to bit 0 and C (R217). -/
def opRlc (v : Byte) (_ : Flags) : Byte × Bool := ((v <<< 1) ||| bitByte (testBit v 7), testBit v 7)

/-- RRC: old bit 0 to bit 7 and C (R218). -/
def opRrc (v : Byte) (_ : Flags) : Byte × Bool := ((v >>> 1) ||| (bitByte (testBit v 0) <<< 7), testBit v 0)

/-- RL: left through C (R219). -/
def opRl (v : Byte) (f : Flags) : Byte × Bool := ((v <<< 1) ||| bitByte f.cf, testBit v 7)

/-- RR: right through C (R220). -/
def opRr (v : Byte) (f : Flags) : Byte × Bool := ((v >>> 1) ||| (bitByte f.cf <<< 7), testBit v 0)

/-- SLA (R221). -/
def opSla (v : Byte) (_ : Flags) : Byte × Bool := (shiftLeft v, testBit v 7)

/-- SRA, defined as the logical shift (R222). -/
def opSra (v : Byte) (_ : Flags) : Byte × Bool := (shiftRightArithmetic v, testBit v 0)

/-- SWAP; C cleared (R223). -/
def opSwap (v : Byte) (_ : Flags) : Byte × Bool := (swapNibbles v, false)

/-- SRL (R224). -/
def opSrl (v : Byte) (_ : Flags) : Byte × Bool := (shiftRightLogical v, testBit v 0)

/-- The flags of the extended shift group: Z set iff the result is 0 (R210). -/
def shiftFlags (r : Byte) (c : Bool) : Flags := { z := r = 0x00#8, n := false, hf := false, cf := c }

/-- The flags of the accumulator rotates: Z = 0 always (R213 to R216). -/
def rotateAFlags (c : Bool) : Flags := { z := false, n := false, hf := false, cf := c }

/-- The flags of BIT b: Z is the complement of the bit, N and Hf cleared, Cf unchanged (R225). -/
def bitFlags (v : Byte) (b : Nat) (f : Flags) : Flags := { z := !testBit v b, n := false, hf := false, cf := f.cf }

end Sys2Proof.Machine
end

