-- ==== Sys2Proof/Machine/Memory.lean ====
section
/-! DEFINITION. The RAM stores as canonical cell lists, and the bus: the address decoder, what each region reads as, the
overlay latch and where a write lands (20_memory R60 to R74). -/
namespace Sys2Proof.Machine

/-- What an address with no cell reads as. DESIGN CHOICE (log entry 2, unsafe): RAM_INIT is a configuration input, given as
cells over this byte. -/
def unlistedByte : Byte := 0x00#8

/-- The addresses a RAM byte is keyed by: ERAM, WRAM (primary range) and ZRAM (R69, R70, R74). -/
def isRamKey (k : Nat) : Bool := (0xA000 ≤ k && k < 0xE000) || (0xFF80 ≤ k && k < 0x10000)

/-- The byte at a key. -/
def Memory.read : Memory → Nat → Byte
  | [], _ => unlistedByte
  | (j, w) :: m, k => if j = k then w else Memory.read m k

/-- A list with one cell put before it, or not, so that no cell equals what an unlisted address reads as. -/
def Memory.put (k : Nat) (v : Byte) (m : Memory) : Memory := if v = unlistedByte then m else (k, v) :: m

/-- The memory with the byte at one key replaced, in canonical form. -/
def Memory.write : Memory → Nat → Byte → Memory
  | [], k, v => Memory.put k v []
  | (j, w) :: m, k, v =>
    if k < j then Memory.put k v ((j, w) :: m)
    else if k = j then Memory.put k v m
    else (j, w) :: Memory.write m k v

/-- The canonical form: keys strictly rising, each a RAM address, no cell equal to what an unlisted address reads as. -/
def Memory.wf : Memory → Bool
  | [] => true
  | (k, v) :: m => isRamKey k && v != unlistedByte && m.all (fun c => k < c.1) && Memory.wf m

/-- Cells in any order as a canonical memory; a later cell wins, and a cell outside the RAM stores is dropped. -/
def Memory.ofCells (cells : List Host.Cell) : Memory :=
  cells.foldl (fun m c => if isRamKey c.1 then Memory.write m c.1 c.2 else m) []

/-- The regions of the address map (R64). -/
inductive Region where
  | rom | graphics | eram | wram | wramMirror | oam | unusable | io | zram
  deriving DecidableEq, Repr

/-- Decode by top nibble, then for 0xF000 by second nibble, then at 0xFEA0 and 0xFF80 (R61, R62). -/
def region (a : Word) : Region :=
  let top := a.toNat / 0x1000
  let second := a.toNat / 0x100 % 0x10
  if top < 0x8 then .rom
  else if top < 0xA then .graphics
  else if top < 0xC then .eram
  else if top < 0xE then .wram
  else if top = 0xE then .wramMirror
  else if second < 0xE then .wramMirror
  else if second = 0xE then (if a.toNat < 0xFEA0 then .oam else .unusable)
  else if a.toNat < 0xFF80 then .io
  else .zram

/-- The RAM byte an address reaches: ERAM and WRAM indices are addr & 0x1FFF, ZRAM's is addr & 0x7F; the mirror shares
WRAM's bytes (R69, R70, R74). -/
def ramKey (a : Word) : Option Nat :=
  match region a with
  | .eram => some (0xA000 + a.toNat % 0x2000)
  | .wram | .wramMirror => some (0xC000 + a.toNat % 0x2000)
  | .zram => some (0xFF80 + a.toNat % 0x80)
  | .rom | .graphics | .oam | .unusable | .io => none

/-- Whether the BIOS overlays an address: latch at 1 and address below 0x0100 (R65, R67). -/
def Bus.overlaid (b : Bus) (a : Word) : Bool := b.biosOverlay && a.toNat < 0x100

/-- A ROM-range read's byte (R65). -/
def Bus.romRead (b : Bus) (a : Word) : Byte :=
  if b.overlaid a then b.cfg.bios.get (Fin.ofNat 256 a.toNat)
  else b.cfg.rom.getD a.toNat b.cfg.romPad

/-- The byte a read of an address returns (R62). -/
def Bus.peek (b : Bus) (a : Word) : Byte :=
  match region a with
  | .rom => b.romRead a
  | .graphics | .oam | .unusable | .io => 0x00#8
  | .eram | .wram | .wramMirror | .zram =>
    match ramKey a with
    | some k => Memory.read b.ram k
    | none => 0x00#8

/-- The bus after a read of an address: a read of 0x0100-0x7FFF clears the latch, no other read changes anything (R66, R80). -/
def Bus.touch (b : Bus) (a : Word) : Bus :=
  if b.biosOverlay && (0x100 ≤ a.toNat && a.toNat ≤ 0x7FFF) then { b with biosOverlay := false } else b

/-- The bus after a byte write: a RAM byte is stored, every other write is discarded (R63, R67, R68, R71 to R73). -/
def Bus.store (b : Bus) (a : Word) (v : Byte) : Bus :=
  match ramKey a with
  | some k => { b with ram := Memory.write b.ram k v }
  | none => b

end Sys2Proof.Machine
end

