-- ==== Sys2Proof/Machine/Ops.lean ====
section
/-! DEFINITION. The named operations every meaning is written over: registers, pairs, events, cycles, bus accesses, fetch, the
stack, reset and power-on (00_scope R10 to R13; 10_state R21, R22, R28 to R31, R52; 20_memory R62, R63, R75, R76; 40_sequencer
R131, R138; 42_load16_stack R177; 70_reset_and_hazards R290). No operation here takes an exception: the hardware has none, and
an abnormal condition is one event and nothing else (60_exceptions R270). -/
namespace Sys2Proof.Machine

/-! Registers (R10, R20, R21). -/

/-- x[r]. -/
def RegFile.get (rf : RegFile) : Reg8 → Byte
  | .a => rf.a | .b => rf.b | .c => rf.c | .d => rf.d | .e => rf.e | .h => rf.h | .l => rf.l

/-- x[r] <- v. -/
def RegFile.set (rf : RegFile) (r : Reg8) (v : Byte) : RegFile :=
  match r with
  | .a => { rf with a := v }
  | .b => { rf with b := v }
  | .c => { rf with c := v }
  | .d => { rf with d := v }
  | .e => { rf with e := v }
  | .h => { rf with h := v }
  | .l => { rf with l := v }

/-- pair(P): high register in bits 15 to 8, low register or F in bits 7 to 0 (R28). -/
def RegFile.pair (rf : RegFile) : Pair → Word
  | .af => mkWord rf.a (Flags.toByte rf.f)
  | .bc => mkWord rf.b rf.c
  | .de => mkWord rf.d rf.e
  | .hl => mkWord rf.h rf.l

/-- pair(P) <- v; the low half of AF is written through R25 (R29). -/
def RegFile.setPair (rf : RegFile) (p : Pair) (v : Word) : RegFile :=
  match p with
  | .af => { rf with a := hiByte v, f := Flags.ofByte (loByte v) }
  | .bc => { rf with b := hiByte v, c := loByte v }
  | .de => { rf with d := hiByte v, e := loByte v }
  | .hl => { rf with h := hiByte v, l := loByte v }

/-- x[r]. -/
def readReg (r : Reg8) (s : State) : Byte := s.rf.get r

/-- x[r] <- v. -/
def writeReg (r : Reg8) (v : Byte) (s : State) : State := { s with rf := s.rf.set r v }

/-- pair(P). -/
def readPair (p : Pair) (s : State) : Word := s.rf.pair p

/-- pair(P) <- v. -/
def writePair (p : Pair) (v : Word) (s : State) : State := { s with rf := s.rf.setPair p v }

/-- F <- flags (R10, R26). -/
def setFlags (f : Flags) (s : State) : State := { s with rf := { s.rf with f := f } }

/-- PC <- v (R13). -/
def setPc (v : Word) (s : State) : State := { s with rf := { s.rf with pc := v } }

/-- SP <- v. -/
def setSp (v : Word) (s : State) : State := { s with rf := { s.rf with sp := v } }

/-- IME <- v (R35). -/
def setIme (v : Bool) (s : State) : State := { s with ime := v }

/-- halted <- 1 (R36). -/
def halt (s : State) : State := { s with halted := true }

/-- The sequencer enters a state (R37). -/
def setSeq (q : SeqState) (s : State) : State := { s with seq := q }

/-! Events and cycles. -/

/-- emit e: append one event, change no other state (R13, R54). -/
def emit (e : Event) (s : State) : State := { s with events := s.events ++ [e] }

/-- cycles += n (R13, R40). -/
def charge (n : Nat) (s : State) : State := { s with cycles := s.cycles + n }

/-- A step that ends after its behaviour, at the descriptor's base cost (R138). -/
def finish (base : Nat) (s : State) : Result := .next (charge base s)

/-- A conditional step: the extra cost is added when the behaviour answers taken (R138). -/
def finishCond (base extra : Nat) (r : Bool × State) : Result :=
  .next (charge (base + if r.1 then extra else 0) r.2)

/-! Bus accesses, in the order a rule writes them (R11). -/

/-- readByte(addr): the byte, and the state after the read (R62). -/
def readByte (a : Word) (s : State) : Byte × State := (s.bus.peek a, { s with bus := s.bus.touch a })

/-- writeByte(addr, v): store or discard, and report a write to the overlaid BIOS range (R63, R67). -/
def writeByte (a : Word) (v : Byte) (s : State) : State :=
  if s.bus.overlaid a then emit (.romWriteRejected a v) s
  else { s with bus := s.bus.store a v }

/-- readWord(addr): low byte at addr, then high byte at addr + 1 mod 2^16 (R75). -/
def readWord (a : Word) (s : State) : Word × State :=
  let (lo, s1) := readByte a s
  let (hi, s2) := readByte (a + 1) s1
  (mkWord hi lo, s2)

/-- writeWord(addr, v): low byte first, then the high byte at addr + 1 mod 2^16 (R76). -/
def writeWord (a v : Word) (s : State) : State :=
  writeByte (a + 1) (hiByte v) (writeByte a (loByte v) s)

/-- Fetch8: read at PC through the bus, then PC + 1 mod 2^16 (R12, R131). -/
def fetch8 (s : State) : Byte × State :=
  let (v, s1) := readByte s.rf.pc s
  (v, setPc (s.rf.pc + 1) s1)

/-- Fetch16: low byte, then high byte (R12). -/
def fetch16 (s : State) : Word × State :=
  let (lo, s1) := fetch8 s
  let (hi, s2) := fetch8 s1
  (mkWord hi lo, s2)

/-! The stack (R177). -/

/-- push16(v): SP <- SP - 2, then writeWord(SP, v). -/
def push16 (v : Word) (s : State) : State :=
  let s1 := setSp (s.rf.sp - 2) s
  writeWord s1.rf.sp v s1

/-- pop16(): readWord(SP), then SP <- SP + 2. -/
def pop16 (s : State) : Word × State :=
  let (v, s1) := readWord s.rf.sp s
  (v, setSp (s1.rf.sp + 2) s1)

/-! The register file's own operations, outside any instruction (R22, R30, R31). -/

/-- inc(r) of an 8-bit register, with wrap, no flag (R22). -/
def incReg (r : Reg8) (s : State) : State := writeReg r (readReg r s + 1) s

/-- dec(r) of an 8-bit register, with wrap, no flag (R22). -/
def decReg (r : Reg8) (s : State) : State := writeReg r (readReg r s - 1) s

/-- inc(PC), with wrap (R22). -/
def incPc (s : State) : State := setPc (s.rf.pc + 1) s

/-- dec(PC), with wrap (R22). -/
def decPc (s : State) : State := setPc (s.rf.pc - 1) s

/-- inc(SP), with wrap (R22). -/
def incSp (s : State) : State := setSp (s.rf.sp + 1) s

/-- dec(SP), with wrap (R22). -/
def decSp (s : State) : State := setSp (s.rf.sp - 1) s

/-- Whether a bit index is one of 0 to 7 (R30, R31). -/
def validBitIndex (b : Int) : Bool := 0 ≤ b && b ≤ 7

/-- A bit operation at an index: outside 0 to 7 it is a no-op that is reported (R31). -/
def regBitOp (op : Byte → Nat → Byte) (r : Reg8) (b : Int) (s : State) : State :=
  if validBitIndex b then writeReg r (op (readReg r s) b.toNat) s else emit (.invalidBitIndex r b) s

/-- set(r, b) (R30). -/
def regSetBit (r : Reg8) (b : Int) (s : State) : State := regBitOp setBit r b s

/-- reset(r, b) (R30). -/
def regResetBit (r : Reg8) (b : Int) (s : State) : State := regBitOp resetBit r b s

/-- test(r, b): the bit, or a report for an index outside 0 to 7 (R30, R31), where it answers none. DESIGN CHOICE (log entry 13,
safe): R31 states no answer there. -/
def regTestBit (r : Reg8) (b : Int) (s : State) : Option Bool × State :=
  if validBitIndex b then (some (testBit (readReg r s) b.toNat), s) else (none, emit (.invalidBitIndex r b) s)

/-- swapNibbles(r) (R30). -/
def regSwapNibbles (r : Reg8) (s : State) : State := writeReg r (swapNibbles (readReg r s)) s

/-- shiftLeft(r) (R30). -/
def regShiftLeft (r : Reg8) (s : State) : State := writeReg r (shiftLeft (readReg r s)) s

/-- shiftRightLogical(r) (R30). -/
def regShiftRightLogical (r : Reg8) (s : State) : State := writeReg r (shiftRightLogical (readReg r s)) s

/-- shiftRightArithmetic(r), identical to the logical shift (R30). -/
def regShiftRightArithmetic (r : Reg8) (s : State) : State := writeReg r (shiftRightArithmetic (readReg r s)) s

/-! Reset and power-on. -/

/-- The reset input: every element of R42 at its reset value, the configuration kept, no event emitted (R53, R290). The event
output is no element of R42 and keeps what it holds (log entry 4). -/
def applyReset (s : State) : State := { State.ofConfig s.bus.cfg with events := s.events }

/-- Power-on with the configuration inputs: a BIOS image whose length is not 256 is refused and the block has no state to run
(R52, R291). RAM_INIT is given as cells over 0x00. -/
def powerOn (bios rom : List Byte) (romPad : Byte) (ramInit : List Host.Cell) : Result :=
  if h : bios.length = 256 then
    .next (State.ofConfig
      { bios := ⟨bios.toArray, h⟩, rom := rom, romPad := romPad, ramInit := Memory.ofCells ramInit })
  else .refused (.biosLength bios.length)

end Sys2Proof.Machine
end

