-- ==== Sys2Proof/Machine/Operands.lean ====
section
/-! DEFINITION. The operand forms: r8 with its (HL) form, rp, and a read-modify-write of an r8 operand (30_encoding R104, R105;
40_sequencer R144; 45_rotate_shift_bit R211, R212). Immediates are operands of the constructors, fetched by Machine/Fetch. -/
namespace Sys2Proof.Machine

/-- The register of an r8 operand, none for (HL) (R104). -/
def r8Reg : R8 → Option Reg8
  | .b => some .b | .c => some .c | .d => some .d | .e => some .e
  | .h => some .h | .l => some .l | .a => some .a | .hl => none

/-- readR8: a register, or the byte at HL through the bus (R144). -/
def readR8 (o : R8) (s : State) : Byte × State :=
  match r8Reg o with
  | some r => (readReg r s, s)
  | none => readByte (readPair .hl s) s

/-- writeR8: a register, or the byte at HL through the bus (R144). -/
def writeR8 (o : R8) (v : Byte) (s : State) : State :=
  match r8Reg o with
  | some r => writeReg r v s
  | none => writeByte (readPair .hl s) v s

/-- The pair of an rp code, none for SP (R105). -/
def rpPair : Rp → Option Pair
  | .bc => some .bc | .de => some .de | .hl => some .hl | .sp => none

/-- The 16-bit operand an rp code names (R105). -/
def readRp (p : Rp) (s : State) : Word :=
  match rpPair p with
  | some q => readPair q s
  | none => s.rf.sp

/-- A write to the 16-bit operand an rp code names (R105). -/
def writeRp (p : Rp) (v : Word) (s : State) : State :=
  match rpPair p with
  | some q => writePair q v s
  | none => setSp v s

end Sys2Proof.Machine
end

