-- ==== Sys2Proof/Machine/Alu16.lean ====
section
/-! DEFINITION. 16-bit arithmetic (44_alu16 R200 to R203). -/
namespace Sys2Proof.Machine

/-- pair(HL) <- HL + rp, both read before the write (R202). -/
def addHl (p : Rp) (s : State) : State :=
  let h := readPair .hl s
  let v := readRp p s
  setFlags (add16Flags h v s.rf.f) (writePair .hl (add16Result h v) s)

/-- SP <- SP + sext_8(e), with the flags of the low-byte addition (R203). -/
def addSp (e : Byte) (s : State) : State := setFlags (spPlusFlags s.rf.sp e) (setSp (spPlus s.rf.sp e) s)

/-- ADD SP,e8 (R203). -/
def execAddSpE8 (e : Byte) (s : State) : Result := finish 16 (addSp e s)

/-- INC BC (R200). -/
def execIncBc (s : State) : Result := finish 8 (writeRp .bc (readRp .bc s + 1) s)

/-- ADD HL,BC (R202). -/
def execAddHlBc (s : State) : Result := finish 8 (addHl .bc s)

/-- DEC BC (R201). -/
def execDecBc (s : State) : Result := finish 8 (writeRp .bc (readRp .bc s - 1) s)

/-- INC DE (R200). -/
def execIncDe (s : State) : Result := finish 8 (writeRp .de (readRp .de s + 1) s)

/-- ADD HL,DE (R202). -/
def execAddHlDe (s : State) : Result := finish 8 (addHl .de s)

/-- DEC DE (R201). -/
def execDecDe (s : State) : Result := finish 8 (writeRp .de (readRp .de s - 1) s)

/-- INC HL (R200). -/
def execIncHl (s : State) : Result := finish 8 (writeRp .hl (readRp .hl s + 1) s)

/-- ADD HL,HL (R202). -/
def execAddHlHl (s : State) : Result := finish 8 (addHl .hl s)

/-- DEC HL (R201). -/
def execDecHl (s : State) : Result := finish 8 (writeRp .hl (readRp .hl s - 1) s)

/-- INC SP (R200). -/
def execIncSp (s : State) : Result := finish 8 (writeRp .sp (readRp .sp s + 1) s)

/-- ADD HL,SP (R202). -/
def execAddHlSp (s : State) : Result := finish 8 (addHl .sp s)

/-- DEC SP (R201). -/
def execDecSp (s : State) : Result := finish 8 (writeRp .sp (readRp .sp s - 1) s)

end Sys2Proof.Machine
end

