-- ==== Sys2Proof/Machine/Alu8.lean ====
section
/-! DEFINITION. 8-bit arithmetic and logic (43_alu8 R180 to R197). -/
namespace Sys2Proof.Machine

/-- The carry flag as 0 or 1, read before any flag is written (R182, R184). -/
def carryIn (s : State) : Nat := s.rf.f.cf.toNat

/-- ADD A,v (R181). -/
def addA (v : Byte) (s : State) : State :=
  setFlags (addFlags s.rf.a v 0) (writeReg .a (addResult s.rf.a v 0) s)

/-- ADC A,v (R182). -/
def adcA (v : Byte) (s : State) : State :=
  setFlags (addFlags s.rf.a v (carryIn s)) (writeReg .a (addResult s.rf.a v (carryIn s)) s)

/-- SUB v (R183). -/
def subA (v : Byte) (s : State) : State :=
  setFlags (subFlags s.rf.a v 0) (writeReg .a (subResult s.rf.a v 0) s)

/-- SBC A,v (R184). -/
def sbcA (v : Byte) (s : State) : State :=
  setFlags (subFlags s.rf.a v (carryIn s)) (writeReg .a (subResult s.rf.a v (carryIn s)) s)

/-- AND v (R185). -/
def andA (v : Byte) (s : State) : State := setFlags (andFlags (s.rf.a &&& v)) (writeReg .a (s.rf.a &&& v) s)

/-- XOR v (R186). -/
def xorA (v : Byte) (s : State) : State := setFlags (orFlags (s.rf.a ^^^ v)) (writeReg .a (s.rf.a ^^^ v) s)

/-- OR v (R187). -/
def orA (v : Byte) (s : State) : State := setFlags (orFlags (s.rf.a ||| v)) (writeReg .a (s.rf.a ||| v) s)

/-- CP v: as SUB, A not written (R188). -/
def cpA (v : Byte) (s : State) : State := setFlags (subFlags s.rf.a v 0) s

/-- An accumulator operation on an r8 source (R180). -/
def aluFrom (op : Byte → State → State) (src : R8) (s : State) : State :=
  let (v, s1) := readR8 src s
  op v s1

/-- INC of an r8 operand; the (HL) form reads, then writes the same address (R190, R192). -/
def incR8 (o : R8) (s : State) : State :=
  let (v, s1) := readR8 o s
  setFlags (incFlags v s.rf.f) (writeR8 o (v + 0x01#8) s1)

/-- DEC of an r8 operand (R191, R193). -/
def decR8 (o : R8) (s : State) : State :=
  let (v, s1) := readR8 o s
  setFlags (decFlags v s.rf.f) (writeR8 o (v - 0x01#8) s1)

/-- DAA (R194). -/
def daaA (s : State) : State := setFlags (daaFlags s.rf.a s.rf.f) (writeReg .a (daaResult s.rf.a s.rf.f) s)

/-- CPL (R195). -/
def cplA (s : State) : State := setFlags { s.rf.f with n := true, hf := true } (writeReg .a (~~~s.rf.a) s)

/-- SCF (R196). -/
def setCarry (s : State) : State := setFlags { s.rf.f with n := false, hf := false, cf := true } s

/-- CCF (R197). -/
def complementCarry (s : State) : State := setFlags { s.rf.f with n := false, hf := false, cf := !s.rf.f.cf } s

/-- ADD A,d8 (R181). -/
def execAddAD8 (v : Byte) (s : State) : Result := finish 8 (addA v s)

/-- ADC A,d8 (R182). -/
def execAdcAD8 (v : Byte) (s : State) : Result := finish 8 (adcA v s)

/-- SUB d8 (R183). -/
def execSubD8 (v : Byte) (s : State) : Result := finish 8 (subA v s)

/-- SBC A,d8 (R184). -/
def execSbcAD8 (v : Byte) (s : State) : Result := finish 8 (sbcA v s)

/-- AND d8 (R185). -/
def execAndD8 (v : Byte) (s : State) : Result := finish 8 (andA v s)

/-- XOR d8 (R186). -/
def execXorD8 (v : Byte) (s : State) : Result := finish 8 (xorA v s)

/-- OR d8 (R187). -/
def execOrD8 (v : Byte) (s : State) : Result := finish 8 (orA v s)

/-- CP d8 (R188). -/
def execCpD8 (v : Byte) (s : State) : Result := finish 8 (cpA v s)

/-- INC B (R190). -/
def execIncB (s : State) : Result := finish 4 (incR8 .b s)

/-- DEC B (R191). -/
def execDecB (s : State) : Result := finish 4 (decR8 .b s)

/-- INC C (R190). -/
def execIncC (s : State) : Result := finish 4 (incR8 .c s)

/-- DEC C (R191). -/
def execDecC (s : State) : Result := finish 4 (decR8 .c s)

/-- INC D (R190). -/
def execIncD (s : State) : Result := finish 4 (incR8 .d s)

/-- DEC D (R191). -/
def execDecD (s : State) : Result := finish 4 (decR8 .d s)

/-- INC E (R190). -/
def execIncE (s : State) : Result := finish 4 (incR8 .e s)

/-- DEC E (R191). -/
def execDecE (s : State) : Result := finish 4 (decR8 .e s)

/-- INC H (R190). -/
def execIncH (s : State) : Result := finish 4 (incR8 .h s)

/-- DEC H (R191). -/
def execDecH (s : State) : Result := finish 4 (decR8 .h s)

/-- DAA (R194). -/
def execDaa (s : State) : Result := finish 4 (daaA s)

/-- INC L (R190). -/
def execIncL (s : State) : Result := finish 4 (incR8 .l s)

/-- DEC L (R191). -/
def execDecL (s : State) : Result := finish 4 (decR8 .l s)

/-- CPL (R195). -/
def execCpl (s : State) : Result := finish 4 (cplA s)

/-- INC (HL) (R192). -/
def execIncMemHl (s : State) : Result := finish 12 (incR8 .hl s)

/-- DEC (HL) (R193). -/
def execDecMemHl (s : State) : Result := finish 12 (decR8 .hl s)

/-- SCF (R196). -/
def execScf (s : State) : Result := finish 4 (setCarry s)

/-- INC A (R190). -/
def execIncA (s : State) : Result := finish 4 (incR8 .a s)

/-- DEC A (R191). -/
def execDecA (s : State) : Result := finish 4 (decR8 .a s)

/-- CCF (R197). -/
def execCcf (s : State) : Result := finish 4 (complementCarry s)

/-- ADD A,B (R181). -/
def execAddAB (s : State) : Result := finish 4 (aluFrom addA .b s)

/-- ADD A,C (R181). -/
def execAddAC (s : State) : Result := finish 4 (aluFrom addA .c s)

/-- ADD A,D (R181). -/
def execAddAD (s : State) : Result := finish 4 (aluFrom addA .d s)

/-- ADD A,E (R181). -/
def execAddAE (s : State) : Result := finish 4 (aluFrom addA .e s)

/-- ADD A,H (R181). -/
def execAddAH (s : State) : Result := finish 4 (aluFrom addA .h s)

/-- ADD A,L (R181). -/
def execAddAL (s : State) : Result := finish 4 (aluFrom addA .l s)

/-- ADD A,(HL) (R181). -/
def execAddAMemHl (s : State) : Result := finish 8 (aluFrom addA .hl s)

/-- ADD A,A (R181). -/
def execAddAA (s : State) : Result := finish 4 (aluFrom addA .a s)

/-- ADC A,B (R182). -/
def execAdcAB (s : State) : Result := finish 4 (aluFrom adcA .b s)

/-- ADC A,C (R182). -/
def execAdcAC (s : State) : Result := finish 4 (aluFrom adcA .c s)

/-- ADC A,D (R182). -/
def execAdcAD (s : State) : Result := finish 4 (aluFrom adcA .d s)

/-- ADC A,E (R182). -/
def execAdcAE (s : State) : Result := finish 4 (aluFrom adcA .e s)

/-- ADC A,H (R182). -/
def execAdcAH (s : State) : Result := finish 4 (aluFrom adcA .h s)

/-- ADC A,L (R182). -/
def execAdcAL (s : State) : Result := finish 4 (aluFrom adcA .l s)

/-- ADC A,(HL) (R182). -/
def execAdcAMemHl (s : State) : Result := finish 8 (aluFrom adcA .hl s)

/-- ADC A,A (R182). -/
def execAdcAA (s : State) : Result := finish 4 (aluFrom adcA .a s)

/-- SUB B (R183). -/
def execSubB (s : State) : Result := finish 4 (aluFrom subA .b s)

/-- SUB C (R183). -/
def execSubC (s : State) : Result := finish 4 (aluFrom subA .c s)

/-- SUB D (R183). -/
def execSubD (s : State) : Result := finish 4 (aluFrom subA .d s)

/-- SUB E (R183). -/
def execSubE (s : State) : Result := finish 4 (aluFrom subA .e s)

/-- SUB H (R183). -/
def execSubH (s : State) : Result := finish 4 (aluFrom subA .h s)

/-- SUB L (R183). -/
def execSubL (s : State) : Result := finish 4 (aluFrom subA .l s)

/-- SUB (HL) (R183). -/
def execSubMemHl (s : State) : Result := finish 8 (aluFrom subA .hl s)

/-- SUB A (R183). -/
def execSubA (s : State) : Result := finish 4 (aluFrom subA .a s)

/-- SBC A,B (R184). -/
def execSbcAB (s : State) : Result := finish 4 (aluFrom sbcA .b s)

/-- SBC A,C (R184). -/
def execSbcAC (s : State) : Result := finish 4 (aluFrom sbcA .c s)

/-- SBC A,D (R184). -/
def execSbcAD (s : State) : Result := finish 4 (aluFrom sbcA .d s)

/-- SBC A,E (R184). -/
def execSbcAE (s : State) : Result := finish 4 (aluFrom sbcA .e s)

/-- SBC A,H (R184). -/
def execSbcAH (s : State) : Result := finish 4 (aluFrom sbcA .h s)

/-- SBC A,L (R184). -/
def execSbcAL (s : State) : Result := finish 4 (aluFrom sbcA .l s)

/-- SBC A,(HL) (R184). -/
def execSbcAMemHl (s : State) : Result := finish 8 (aluFrom sbcA .hl s)

/-- SBC A,A (R184). -/
def execSbcAA (s : State) : Result := finish 4 (aluFrom sbcA .a s)

/-- AND B (R185). -/
def execAndB (s : State) : Result := finish 4 (aluFrom andA .b s)

/-- AND C (R185). -/
def execAndC (s : State) : Result := finish 4 (aluFrom andA .c s)

/-- AND D (R185). -/
def execAndD (s : State) : Result := finish 4 (aluFrom andA .d s)

/-- AND E (R185). -/
def execAndE (s : State) : Result := finish 4 (aluFrom andA .e s)

/-- AND H (R185). -/
def execAndH (s : State) : Result := finish 4 (aluFrom andA .h s)

/-- AND L (R185). -/
def execAndL (s : State) : Result := finish 4 (aluFrom andA .l s)

/-- AND (HL) (R185). -/
def execAndMemHl (s : State) : Result := finish 8 (aluFrom andA .hl s)

/-- AND A (R185). -/
def execAndA (s : State) : Result := finish 4 (aluFrom andA .a s)

/-- XOR B (R186). -/
def execXorB (s : State) : Result := finish 4 (aluFrom xorA .b s)

/-- XOR C (R186). -/
def execXorC (s : State) : Result := finish 4 (aluFrom xorA .c s)

/-- XOR D (R186). -/
def execXorD (s : State) : Result := finish 4 (aluFrom xorA .d s)

/-- XOR E (R186). -/
def execXorE (s : State) : Result := finish 4 (aluFrom xorA .e s)

/-- XOR H (R186). -/
def execXorH (s : State) : Result := finish 4 (aluFrom xorA .h s)

/-- XOR L (R186). -/
def execXorL (s : State) : Result := finish 4 (aluFrom xorA .l s)

/-- XOR (HL) (R186). -/
def execXorMemHl (s : State) : Result := finish 8 (aluFrom xorA .hl s)

/-- XOR A (R186). -/
def execXorA (s : State) : Result := finish 4 (aluFrom xorA .a s)

/-- OR B (R187). -/
def execOrB (s : State) : Result := finish 4 (aluFrom orA .b s)

/-- OR C (R187). -/
def execOrC (s : State) : Result := finish 4 (aluFrom orA .c s)

/-- OR D (R187). -/
def execOrD (s : State) : Result := finish 4 (aluFrom orA .d s)

/-- OR E (R187). -/
def execOrE (s : State) : Result := finish 4 (aluFrom orA .e s)

/-- OR H (R187). -/
def execOrH (s : State) : Result := finish 4 (aluFrom orA .h s)

/-- OR L (R187). -/
def execOrL (s : State) : Result := finish 4 (aluFrom orA .l s)

/-- OR (HL) (R187). -/
def execOrMemHl (s : State) : Result := finish 8 (aluFrom orA .hl s)

/-- OR A (R187). -/
def execOrA (s : State) : Result := finish 4 (aluFrom orA .a s)

/-- CP B (R188). -/
def execCpB (s : State) : Result := finish 4 (aluFrom cpA .b s)

/-- CP C (R188). -/
def execCpC (s : State) : Result := finish 4 (aluFrom cpA .c s)

/-- CP D (R188). -/
def execCpD (s : State) : Result := finish 4 (aluFrom cpA .d s)

/-- CP E (R188). -/
def execCpE (s : State) : Result := finish 4 (aluFrom cpA .e s)

/-- CP H (R188). -/
def execCpH (s : State) : Result := finish 4 (aluFrom cpA .h s)

/-- CP L (R188). -/
def execCpL (s : State) : Result := finish 4 (aluFrom cpA .l s)

/-- CP (HL) (R188). -/
def execCpMemHl (s : State) : Result := finish 8 (aluFrom cpA .hl s)

/-- CP A (R188). -/
def execCpA (s : State) : Result := finish 4 (aluFrom cpA .a s)

end Sys2Proof.Machine
end

