-- ==== Sys2Proof/Machine/Bit.lean ====
section
/-! DEFINITION. BIT, RES and SET (45_rotate_shift_bit R225 to R227). -/
namespace Sys2Proof.Machine

/-- BIT b: the operand is read, not written (R225). -/
def bitTest (b : Nat) (o : R8) (s : State) : State :=
  let (v, s1) := readR8 o s
  setFlags (bitFlags v b s.rf.f) s1

/-- RES b and SET b: read, update, write back, no flag (R226, R227). -/
def bitUpdate (op : Byte → Nat → Byte) (b : Nat) (o : R8) (s : State) : State :=
  let (v, s1) := readR8 o s
  writeR8 o (op v b) s1

/-- BIT 0,B (R225). -/
def execBit0B (s : State) : Result := finish 8 (bitTest 0 .b s)

/-- BIT 0,C (R225). -/
def execBit0C (s : State) : Result := finish 8 (bitTest 0 .c s)

/-- BIT 0,D (R225). -/
def execBit0D (s : State) : Result := finish 8 (bitTest 0 .d s)

/-- BIT 0,E (R225). -/
def execBit0E (s : State) : Result := finish 8 (bitTest 0 .e s)

/-- BIT 0,H (R225). -/
def execBit0H (s : State) : Result := finish 8 (bitTest 0 .h s)

/-- BIT 0,L (R225). -/
def execBit0L (s : State) : Result := finish 8 (bitTest 0 .l s)

/-- BIT 0,(HL) (R225). -/
def execBit0MemHl (s : State) : Result := finish 12 (bitTest 0 .hl s)

/-- BIT 0,A (R225). -/
def execBit0A (s : State) : Result := finish 8 (bitTest 0 .a s)

/-- BIT 1,B (R225). -/
def execBit1B (s : State) : Result := finish 8 (bitTest 1 .b s)

/-- BIT 1,C (R225). -/
def execBit1C (s : State) : Result := finish 8 (bitTest 1 .c s)

/-- BIT 1,D (R225). -/
def execBit1D (s : State) : Result := finish 8 (bitTest 1 .d s)

/-- BIT 1,E (R225). -/
def execBit1E (s : State) : Result := finish 8 (bitTest 1 .e s)

/-- BIT 1,H (R225). -/
def execBit1H (s : State) : Result := finish 8 (bitTest 1 .h s)

/-- BIT 1,L (R225). -/
def execBit1L (s : State) : Result := finish 8 (bitTest 1 .l s)

/-- BIT 1,(HL) (R225). -/
def execBit1MemHl (s : State) : Result := finish 12 (bitTest 1 .hl s)

/-- BIT 1,A (R225). -/
def execBit1A (s : State) : Result := finish 8 (bitTest 1 .a s)

/-- BIT 2,B (R225). -/
def execBit2B (s : State) : Result := finish 8 (bitTest 2 .b s)

/-- BIT 2,C (R225). -/
def execBit2C (s : State) : Result := finish 8 (bitTest 2 .c s)

/-- BIT 2,D (R225). -/
def execBit2D (s : State) : Result := finish 8 (bitTest 2 .d s)

/-- BIT 2,E (R225). -/
def execBit2E (s : State) : Result := finish 8 (bitTest 2 .e s)

/-- BIT 2,H (R225). -/
def execBit2H (s : State) : Result := finish 8 (bitTest 2 .h s)

/-- BIT 2,L (R225). -/
def execBit2L (s : State) : Result := finish 8 (bitTest 2 .l s)

/-- BIT 2,(HL) (R225). -/
def execBit2MemHl (s : State) : Result := finish 12 (bitTest 2 .hl s)

/-- BIT 2,A (R225). -/
def execBit2A (s : State) : Result := finish 8 (bitTest 2 .a s)

/-- BIT 3,B (R225). -/
def execBit3B (s : State) : Result := finish 8 (bitTest 3 .b s)

/-- BIT 3,C (R225). -/
def execBit3C (s : State) : Result := finish 8 (bitTest 3 .c s)

/-- BIT 3,D (R225). -/
def execBit3D (s : State) : Result := finish 8 (bitTest 3 .d s)

/-- BIT 3,E (R225). -/
def execBit3E (s : State) : Result := finish 8 (bitTest 3 .e s)

/-- BIT 3,H (R225). -/
def execBit3H (s : State) : Result := finish 8 (bitTest 3 .h s)

/-- BIT 3,L (R225). -/
def execBit3L (s : State) : Result := finish 8 (bitTest 3 .l s)

/-- BIT 3,(HL) (R225). -/
def execBit3MemHl (s : State) : Result := finish 12 (bitTest 3 .hl s)

/-- BIT 3,A (R225). -/
def execBit3A (s : State) : Result := finish 8 (bitTest 3 .a s)

/-- BIT 4,B (R225). -/
def execBit4B (s : State) : Result := finish 8 (bitTest 4 .b s)

/-- BIT 4,C (R225). -/
def execBit4C (s : State) : Result := finish 8 (bitTest 4 .c s)

/-- BIT 4,D (R225). -/
def execBit4D (s : State) : Result := finish 8 (bitTest 4 .d s)

/-- BIT 4,E (R225). -/
def execBit4E (s : State) : Result := finish 8 (bitTest 4 .e s)

/-- BIT 4,H (R225). -/
def execBit4H (s : State) : Result := finish 8 (bitTest 4 .h s)

/-- BIT 4,L (R225). -/
def execBit4L (s : State) : Result := finish 8 (bitTest 4 .l s)

/-- BIT 4,(HL) (R225). -/
def execBit4MemHl (s : State) : Result := finish 12 (bitTest 4 .hl s)

/-- BIT 4,A (R225). -/
def execBit4A (s : State) : Result := finish 8 (bitTest 4 .a s)

/-- BIT 5,B (R225). -/
def execBit5B (s : State) : Result := finish 8 (bitTest 5 .b s)

/-- BIT 5,C (R225). -/
def execBit5C (s : State) : Result := finish 8 (bitTest 5 .c s)

/-- BIT 5,D (R225). -/
def execBit5D (s : State) : Result := finish 8 (bitTest 5 .d s)

/-- BIT 5,E (R225). -/
def execBit5E (s : State) : Result := finish 8 (bitTest 5 .e s)

/-- BIT 5,H (R225). -/
def execBit5H (s : State) : Result := finish 8 (bitTest 5 .h s)

/-- BIT 5,L (R225). -/
def execBit5L (s : State) : Result := finish 8 (bitTest 5 .l s)

/-- BIT 5,(HL) (R225). -/
def execBit5MemHl (s : State) : Result := finish 12 (bitTest 5 .hl s)

/-- BIT 5,A (R225). -/
def execBit5A (s : State) : Result := finish 8 (bitTest 5 .a s)

/-- BIT 6,B (R225). -/
def execBit6B (s : State) : Result := finish 8 (bitTest 6 .b s)

/-- BIT 6,C (R225). -/
def execBit6C (s : State) : Result := finish 8 (bitTest 6 .c s)

/-- BIT 6,D (R225). -/
def execBit6D (s : State) : Result := finish 8 (bitTest 6 .d s)

/-- BIT 6,E (R225). -/
def execBit6E (s : State) : Result := finish 8 (bitTest 6 .e s)

/-- BIT 6,H (R225). -/
def execBit6H (s : State) : Result := finish 8 (bitTest 6 .h s)

/-- BIT 6,L (R225). -/
def execBit6L (s : State) : Result := finish 8 (bitTest 6 .l s)

/-- BIT 6,(HL) (R225). -/
def execBit6MemHl (s : State) : Result := finish 12 (bitTest 6 .hl s)

/-- BIT 6,A (R225). -/
def execBit6A (s : State) : Result := finish 8 (bitTest 6 .a s)

/-- BIT 7,B (R225). -/
def execBit7B (s : State) : Result := finish 8 (bitTest 7 .b s)

/-- BIT 7,C (R225). -/
def execBit7C (s : State) : Result := finish 8 (bitTest 7 .c s)

/-- BIT 7,D (R225). -/
def execBit7D (s : State) : Result := finish 8 (bitTest 7 .d s)

/-- BIT 7,E (R225). -/
def execBit7E (s : State) : Result := finish 8 (bitTest 7 .e s)

/-- BIT 7,H (R225). -/
def execBit7H (s : State) : Result := finish 8 (bitTest 7 .h s)

/-- BIT 7,L (R225). -/
def execBit7L (s : State) : Result := finish 8 (bitTest 7 .l s)

/-- BIT 7,(HL) (R225). -/
def execBit7MemHl (s : State) : Result := finish 12 (bitTest 7 .hl s)

/-- BIT 7,A (R225). -/
def execBit7A (s : State) : Result := finish 8 (bitTest 7 .a s)

/-- RES 0,B (R226). -/
def execRes0B (s : State) : Result := finish 8 (bitUpdate resetBit 0 .b s)

/-- RES 0,C (R226). -/
def execRes0C (s : State) : Result := finish 8 (bitUpdate resetBit 0 .c s)

/-- RES 0,D (R226). -/
def execRes0D (s : State) : Result := finish 8 (bitUpdate resetBit 0 .d s)

/-- RES 0,E (R226). -/
def execRes0E (s : State) : Result := finish 8 (bitUpdate resetBit 0 .e s)

/-- RES 0,H (R226). -/
def execRes0H (s : State) : Result := finish 8 (bitUpdate resetBit 0 .h s)

/-- RES 0,L (R226). -/
def execRes0L (s : State) : Result := finish 8 (bitUpdate resetBit 0 .l s)

/-- RES 0,(HL) (R226). -/
def execRes0MemHl (s : State) : Result := finish 16 (bitUpdate resetBit 0 .hl s)

/-- RES 0,A (R226). -/
def execRes0A (s : State) : Result := finish 8 (bitUpdate resetBit 0 .a s)

/-- RES 1,B (R226). -/
def execRes1B (s : State) : Result := finish 8 (bitUpdate resetBit 1 .b s)

/-- RES 1,C (R226). -/
def execRes1C (s : State) : Result := finish 8 (bitUpdate resetBit 1 .c s)

/-- RES 1,D (R226). -/
def execRes1D (s : State) : Result := finish 8 (bitUpdate resetBit 1 .d s)

/-- RES 1,E (R226). -/
def execRes1E (s : State) : Result := finish 8 (bitUpdate resetBit 1 .e s)

/-- RES 1,H (R226). -/
def execRes1H (s : State) : Result := finish 8 (bitUpdate resetBit 1 .h s)

/-- RES 1,L (R226). -/
def execRes1L (s : State) : Result := finish 8 (bitUpdate resetBit 1 .l s)

/-- RES 1,(HL) (R226). -/
def execRes1MemHl (s : State) : Result := finish 16 (bitUpdate resetBit 1 .hl s)

/-- RES 1,A (R226). -/
def execRes1A (s : State) : Result := finish 8 (bitUpdate resetBit 1 .a s)

/-- RES 2,B (R226). -/
def execRes2B (s : State) : Result := finish 8 (bitUpdate resetBit 2 .b s)

/-- RES 2,C (R226). -/
def execRes2C (s : State) : Result := finish 8 (bitUpdate resetBit 2 .c s)

/-- RES 2,D (R226). -/
def execRes2D (s : State) : Result := finish 8 (bitUpdate resetBit 2 .d s)

/-- RES 2,E (R226). -/
def execRes2E (s : State) : Result := finish 8 (bitUpdate resetBit 2 .e s)

/-- RES 2,H (R226). -/
def execRes2H (s : State) : Result := finish 8 (bitUpdate resetBit 2 .h s)

/-- RES 2,L (R226). -/
def execRes2L (s : State) : Result := finish 8 (bitUpdate resetBit 2 .l s)

/-- RES 2,(HL) (R226). -/
def execRes2MemHl (s : State) : Result := finish 16 (bitUpdate resetBit 2 .hl s)

/-- RES 2,A (R226). -/
def execRes2A (s : State) : Result := finish 8 (bitUpdate resetBit 2 .a s)

/-- RES 3,B (R226). -/
def execRes3B (s : State) : Result := finish 8 (bitUpdate resetBit 3 .b s)

/-- RES 3,C (R226). -/
def execRes3C (s : State) : Result := finish 8 (bitUpdate resetBit 3 .c s)

/-- RES 3,D (R226). -/
def execRes3D (s : State) : Result := finish 8 (bitUpdate resetBit 3 .d s)

/-- RES 3,E (R226). -/
def execRes3E (s : State) : Result := finish 8 (bitUpdate resetBit 3 .e s)

/-- RES 3,H (R226). -/
def execRes3H (s : State) : Result := finish 8 (bitUpdate resetBit 3 .h s)

/-- RES 3,L (R226). -/
def execRes3L (s : State) : Result := finish 8 (bitUpdate resetBit 3 .l s)

/-- RES 3,(HL) (R226). -/
def execRes3MemHl (s : State) : Result := finish 16 (bitUpdate resetBit 3 .hl s)

/-- RES 3,A (R226). -/
def execRes3A (s : State) : Result := finish 8 (bitUpdate resetBit 3 .a s)

/-- RES 4,B (R226). -/
def execRes4B (s : State) : Result := finish 8 (bitUpdate resetBit 4 .b s)

/-- RES 4,C (R226). -/
def execRes4C (s : State) : Result := finish 8 (bitUpdate resetBit 4 .c s)

/-- RES 4,D (R226). -/
def execRes4D (s : State) : Result := finish 8 (bitUpdate resetBit 4 .d s)

/-- RES 4,E (R226). -/
def execRes4E (s : State) : Result := finish 8 (bitUpdate resetBit 4 .e s)

/-- RES 4,H (R226). -/
def execRes4H (s : State) : Result := finish 8 (bitUpdate resetBit 4 .h s)

/-- RES 4,L (R226). -/
def execRes4L (s : State) : Result := finish 8 (bitUpdate resetBit 4 .l s)

/-- RES 4,(HL) (R226). -/
def execRes4MemHl (s : State) : Result := finish 16 (bitUpdate resetBit 4 .hl s)

/-- RES 4,A (R226). -/
def execRes4A (s : State) : Result := finish 8 (bitUpdate resetBit 4 .a s)

/-- RES 5,B (R226). -/
def execRes5B (s : State) : Result := finish 8 (bitUpdate resetBit 5 .b s)

/-- RES 5,C (R226). -/
def execRes5C (s : State) : Result := finish 8 (bitUpdate resetBit 5 .c s)

/-- RES 5,D (R226). -/
def execRes5D (s : State) : Result := finish 8 (bitUpdate resetBit 5 .d s)

/-- RES 5,E (R226). -/
def execRes5E (s : State) : Result := finish 8 (bitUpdate resetBit 5 .e s)

/-- RES 5,H (R226). -/
def execRes5H (s : State) : Result := finish 8 (bitUpdate resetBit 5 .h s)

/-- RES 5,L (R226). -/
def execRes5L (s : State) : Result := finish 8 (bitUpdate resetBit 5 .l s)

/-- RES 5,(HL) (R226). -/
def execRes5MemHl (s : State) : Result := finish 16 (bitUpdate resetBit 5 .hl s)

/-- RES 5,A (R226). -/
def execRes5A (s : State) : Result := finish 8 (bitUpdate resetBit 5 .a s)

/-- RES 6,B (R226). -/
def execRes6B (s : State) : Result := finish 8 (bitUpdate resetBit 6 .b s)

/-- RES 6,C (R226). -/
def execRes6C (s : State) : Result := finish 8 (bitUpdate resetBit 6 .c s)

/-- RES 6,D (R226). -/
def execRes6D (s : State) : Result := finish 8 (bitUpdate resetBit 6 .d s)

/-- RES 6,E (R226). -/
def execRes6E (s : State) : Result := finish 8 (bitUpdate resetBit 6 .e s)

/-- RES 6,H (R226). -/
def execRes6H (s : State) : Result := finish 8 (bitUpdate resetBit 6 .h s)

/-- RES 6,L (R226). -/
def execRes6L (s : State) : Result := finish 8 (bitUpdate resetBit 6 .l s)

/-- RES 6,(HL) (R226). -/
def execRes6MemHl (s : State) : Result := finish 16 (bitUpdate resetBit 6 .hl s)

/-- RES 6,A (R226). -/
def execRes6A (s : State) : Result := finish 8 (bitUpdate resetBit 6 .a s)

/-- RES 7,B (R226). -/
def execRes7B (s : State) : Result := finish 8 (bitUpdate resetBit 7 .b s)

/-- RES 7,C (R226). -/
def execRes7C (s : State) : Result := finish 8 (bitUpdate resetBit 7 .c s)

/-- RES 7,D (R226). -/
def execRes7D (s : State) : Result := finish 8 (bitUpdate resetBit 7 .d s)

/-- RES 7,E (R226). -/
def execRes7E (s : State) : Result := finish 8 (bitUpdate resetBit 7 .e s)

/-- RES 7,H (R226). -/
def execRes7H (s : State) : Result := finish 8 (bitUpdate resetBit 7 .h s)

/-- RES 7,L (R226). -/
def execRes7L (s : State) : Result := finish 8 (bitUpdate resetBit 7 .l s)

/-- RES 7,(HL) (R226). -/
def execRes7MemHl (s : State) : Result := finish 16 (bitUpdate resetBit 7 .hl s)

/-- RES 7,A (R226). -/
def execRes7A (s : State) : Result := finish 8 (bitUpdate resetBit 7 .a s)

/-- SET 0,B (R227). -/
def execSet0B (s : State) : Result := finish 8 (bitUpdate setBit 0 .b s)

/-- SET 0,C (R227). -/
def execSet0C (s : State) : Result := finish 8 (bitUpdate setBit 0 .c s)

/-- SET 0,D (R227). -/
def execSet0D (s : State) : Result := finish 8 (bitUpdate setBit 0 .d s)

/-- SET 0,E (R227). -/
def execSet0E (s : State) : Result := finish 8 (bitUpdate setBit 0 .e s)

/-- SET 0,H (R227). -/
def execSet0H (s : State) : Result := finish 8 (bitUpdate setBit 0 .h s)

/-- SET 0,L (R227). -/
def execSet0L (s : State) : Result := finish 8 (bitUpdate setBit 0 .l s)

/-- SET 0,(HL) (R227). -/
def execSet0MemHl (s : State) : Result := finish 16 (bitUpdate setBit 0 .hl s)

/-- SET 0,A (R227). -/
def execSet0A (s : State) : Result := finish 8 (bitUpdate setBit 0 .a s)

/-- SET 1,B (R227). -/
def execSet1B (s : State) : Result := finish 8 (bitUpdate setBit 1 .b s)

/-- SET 1,C (R227). -/
def execSet1C (s : State) : Result := finish 8 (bitUpdate setBit 1 .c s)

/-- SET 1,D (R227). -/
def execSet1D (s : State) : Result := finish 8 (bitUpdate setBit 1 .d s)

/-- SET 1,E (R227). -/
def execSet1E (s : State) : Result := finish 8 (bitUpdate setBit 1 .e s)

/-- SET 1,H (R227). -/
def execSet1H (s : State) : Result := finish 8 (bitUpdate setBit 1 .h s)

/-- SET 1,L (R227). -/
def execSet1L (s : State) : Result := finish 8 (bitUpdate setBit 1 .l s)

/-- SET 1,(HL) (R227). -/
def execSet1MemHl (s : State) : Result := finish 16 (bitUpdate setBit 1 .hl s)

/-- SET 1,A (R227). -/
def execSet1A (s : State) : Result := finish 8 (bitUpdate setBit 1 .a s)

/-- SET 2,B (R227). -/
def execSet2B (s : State) : Result := finish 8 (bitUpdate setBit 2 .b s)

/-- SET 2,C (R227). -/
def execSet2C (s : State) : Result := finish 8 (bitUpdate setBit 2 .c s)

/-- SET 2,D (R227). -/
def execSet2D (s : State) : Result := finish 8 (bitUpdate setBit 2 .d s)

/-- SET 2,E (R227). -/
def execSet2E (s : State) : Result := finish 8 (bitUpdate setBit 2 .e s)

/-- SET 2,H (R227). -/
def execSet2H (s : State) : Result := finish 8 (bitUpdate setBit 2 .h s)

/-- SET 2,L (R227). -/
def execSet2L (s : State) : Result := finish 8 (bitUpdate setBit 2 .l s)

/-- SET 2,(HL) (R227). -/
def execSet2MemHl (s : State) : Result := finish 16 (bitUpdate setBit 2 .hl s)

/-- SET 2,A (R227). -/
def execSet2A (s : State) : Result := finish 8 (bitUpdate setBit 2 .a s)

/-- SET 3,B (R227). -/
def execSet3B (s : State) : Result := finish 8 (bitUpdate setBit 3 .b s)

/-- SET 3,C (R227). -/
def execSet3C (s : State) : Result := finish 8 (bitUpdate setBit 3 .c s)

/-- SET 3,D (R227). -/
def execSet3D (s : State) : Result := finish 8 (bitUpdate setBit 3 .d s)

/-- SET 3,E (R227). -/
def execSet3E (s : State) : Result := finish 8 (bitUpdate setBit 3 .e s)

/-- SET 3,H (R227). -/
def execSet3H (s : State) : Result := finish 8 (bitUpdate setBit 3 .h s)

/-- SET 3,L (R227). -/
def execSet3L (s : State) : Result := finish 8 (bitUpdate setBit 3 .l s)

/-- SET 3,(HL) (R227). -/
def execSet3MemHl (s : State) : Result := finish 16 (bitUpdate setBit 3 .hl s)

/-- SET 3,A (R227). -/
def execSet3A (s : State) : Result := finish 8 (bitUpdate setBit 3 .a s)

/-- SET 4,B (R227). -/
def execSet4B (s : State) : Result := finish 8 (bitUpdate setBit 4 .b s)

/-- SET 4,C (R227). -/
def execSet4C (s : State) : Result := finish 8 (bitUpdate setBit 4 .c s)

/-- SET 4,D (R227). -/
def execSet4D (s : State) : Result := finish 8 (bitUpdate setBit 4 .d s)

/-- SET 4,E (R227). -/
def execSet4E (s : State) : Result := finish 8 (bitUpdate setBit 4 .e s)

/-- SET 4,H (R227). -/
def execSet4H (s : State) : Result := finish 8 (bitUpdate setBit 4 .h s)

/-- SET 4,L (R227). -/
def execSet4L (s : State) : Result := finish 8 (bitUpdate setBit 4 .l s)

/-- SET 4,(HL) (R227). -/
def execSet4MemHl (s : State) : Result := finish 16 (bitUpdate setBit 4 .hl s)

/-- SET 4,A (R227). -/
def execSet4A (s : State) : Result := finish 8 (bitUpdate setBit 4 .a s)

/-- SET 5,B (R227). -/
def execSet5B (s : State) : Result := finish 8 (bitUpdate setBit 5 .b s)

/-- SET 5,C (R227). -/
def execSet5C (s : State) : Result := finish 8 (bitUpdate setBit 5 .c s)

/-- SET 5,D (R227). -/
def execSet5D (s : State) : Result := finish 8 (bitUpdate setBit 5 .d s)

/-- SET 5,E (R227). -/
def execSet5E (s : State) : Result := finish 8 (bitUpdate setBit 5 .e s)

/-- SET 5,H (R227). -/
def execSet5H (s : State) : Result := finish 8 (bitUpdate setBit 5 .h s)

/-- SET 5,L (R227). -/
def execSet5L (s : State) : Result := finish 8 (bitUpdate setBit 5 .l s)

/-- SET 5,(HL) (R227). -/
def execSet5MemHl (s : State) : Result := finish 16 (bitUpdate setBit 5 .hl s)

/-- SET 5,A (R227). -/
def execSet5A (s : State) : Result := finish 8 (bitUpdate setBit 5 .a s)

/-- SET 6,B (R227). -/
def execSet6B (s : State) : Result := finish 8 (bitUpdate setBit 6 .b s)

/-- SET 6,C (R227). -/
def execSet6C (s : State) : Result := finish 8 (bitUpdate setBit 6 .c s)

/-- SET 6,D (R227). -/
def execSet6D (s : State) : Result := finish 8 (bitUpdate setBit 6 .d s)

/-- SET 6,E (R227). -/
def execSet6E (s : State) : Result := finish 8 (bitUpdate setBit 6 .e s)

/-- SET 6,H (R227). -/
def execSet6H (s : State) : Result := finish 8 (bitUpdate setBit 6 .h s)

/-- SET 6,L (R227). -/
def execSet6L (s : State) : Result := finish 8 (bitUpdate setBit 6 .l s)

/-- SET 6,(HL) (R227). -/
def execSet6MemHl (s : State) : Result := finish 16 (bitUpdate setBit 6 .hl s)

/-- SET 6,A (R227). -/
def execSet6A (s : State) : Result := finish 8 (bitUpdate setBit 6 .a s)

/-- SET 7,B (R227). -/
def execSet7B (s : State) : Result := finish 8 (bitUpdate setBit 7 .b s)

/-- SET 7,C (R227). -/
def execSet7C (s : State) : Result := finish 8 (bitUpdate setBit 7 .c s)

/-- SET 7,D (R227). -/
def execSet7D (s : State) : Result := finish 8 (bitUpdate setBit 7 .d s)

/-- SET 7,E (R227). -/
def execSet7E (s : State) : Result := finish 8 (bitUpdate setBit 7 .e s)

/-- SET 7,H (R227). -/
def execSet7H (s : State) : Result := finish 8 (bitUpdate setBit 7 .h s)

/-- SET 7,L (R227). -/
def execSet7L (s : State) : Result := finish 8 (bitUpdate setBit 7 .l s)

/-- SET 7,(HL) (R227). -/
def execSet7MemHl (s : State) : Result := finish 16 (bitUpdate setBit 7 .hl s)

/-- SET 7,A (R227). -/
def execSet7A (s : State) : Result := finish 8 (bitUpdate setBit 7 .a s)

end Sys2Proof.Machine
end

