-- ==== Sys2Proof/Machine/Control.lean ====
section
/-! DEFINITION. Jumps, calls, returns and restarts (46_control R240 to R250). PC on entry is the address after the
instruction. -/
namespace Sys2Proof.Machine

/-- A jump whose target is written only where the condition holds (R241, R244). -/
def jumpIf (cc : Cond) (target : Word) (s : State) : Bool × State :=
  if condHolds cc s.rf.f then (true, setPc target s) else (false, s)

/-- push16(PC); PC <- target (R245, R249). -/
def callTo (target : Word) (s : State) : State := setPc target (push16 s.rf.pc s)

/-- A call only where the condition holds; not taken, nothing is pushed (R246). -/
def callIf (cc : Cond) (target : Word) (s : State) : Bool × State :=
  if condHolds cc s.rf.f then (true, callTo target s) else (false, s)

/-- PC <- pop16() (R247). -/
def popPc (s : State) : State :=
  let (v, s1) := pop16 s
  setPc v s1

/-- A return only where the condition holds (R250). -/
def returnIf (cc : Cond) (s : State) : Bool × State :=
  if condHolds cc s.rf.f then (true, popPc s) else (false, s)

/-- PC <- pop16(); IME <- 1: the only return from interrupt there is (R248, R278). -/
def returnFromInterrupt (s : State) : State := setIme true (popPc s)

/-- JR e8 (R243). -/
def execJr (e : Byte) (s : State) : Result := finish 12 (setPc (s.rf.pc + sext8 e) s)

/-- JR NZ,e8 (R244). -/
def execJrNz (e : Byte) (s : State) : Result := finishCond 8 4 (jumpIf .nz (s.rf.pc + sext8 e) s)

/-- JR Z,e8 (R244). -/
def execJrZ (e : Byte) (s : State) : Result := finishCond 8 4 (jumpIf .z (s.rf.pc + sext8 e) s)

/-- JR NC,e8 (R244). -/
def execJrNc (e : Byte) (s : State) : Result := finishCond 8 4 (jumpIf .nc (s.rf.pc + sext8 e) s)

/-- JR C,e8 (R244). -/
def execJrC (e : Byte) (s : State) : Result := finishCond 8 4 (jumpIf .c (s.rf.pc + sext8 e) s)

/-- JP NZ,a16 (R241). -/
def execJpNz (a : Word) (s : State) : Result := finishCond 12 4 (jumpIf .nz a s)

/-- JP a16 (R240). -/
def execJp (a : Word) (s : State) : Result := finish 16 (setPc a s)

/-- CALL NZ,a16 (R246). -/
def execCallNz (a : Word) (s : State) : Result := finishCond 12 12 (callIf .nz a s)

/-- JP Z,a16 (R241). -/
def execJpZ (a : Word) (s : State) : Result := finishCond 12 4 (jumpIf .z a s)

/-- CALL Z,a16 (R246). -/
def execCallZ (a : Word) (s : State) : Result := finishCond 12 12 (callIf .z a s)

/-- CALL a16 (R245). -/
def execCall (a : Word) (s : State) : Result := finish 24 (callTo a s)

/-- JP NC,a16 (R241). -/
def execJpNc (a : Word) (s : State) : Result := finishCond 12 4 (jumpIf .nc a s)

/-- CALL NC,a16 (R246). -/
def execCallNc (a : Word) (s : State) : Result := finishCond 12 12 (callIf .nc a s)

/-- JP C,a16 (R241). -/
def execJpC (a : Word) (s : State) : Result := finishCond 12 4 (jumpIf .c a s)

/-- CALL C,a16 (R246). -/
def execCallC (a : Word) (s : State) : Result := finishCond 12 12 (callIf .c a s)

/-- RET NZ (R250). -/
def execRetNz (s : State) : Result := finishCond 8 12 (returnIf .nz s)

/-- RST 00H (R249). -/
def execRst00 (s : State) : Result := finish 16 (callTo 0x0000#16 s)

/-- RET Z (R250). -/
def execRetZ (s : State) : Result := finishCond 8 12 (returnIf .z s)

/-- RET (R247). -/
def execRet (s : State) : Result := finish 16 (popPc s)

/-- RST 08H (R249). -/
def execRst08 (s : State) : Result := finish 16 (callTo 0x0008#16 s)

/-- RET NC (R250). -/
def execRetNc (s : State) : Result := finishCond 8 12 (returnIf .nc s)

/-- RST 10H (R249). -/
def execRst10 (s : State) : Result := finish 16 (callTo 0x0010#16 s)

/-- RET C (R250). -/
def execRetC (s : State) : Result := finishCond 8 12 (returnIf .c s)

/-- RETI (R248). -/
def execReti (s : State) : Result := finish 16 (returnFromInterrupt s)

/-- RST 18H (R249). -/
def execRst18 (s : State) : Result := finish 16 (callTo 0x0018#16 s)

/-- RST 20H (R249). -/
def execRst20 (s : State) : Result := finish 16 (callTo 0x0020#16 s)

/-- JP (HL) (R242). -/
def execJpHl (s : State) : Result := finish 4 (setPc (readPair .hl s) s)

/-- RST 28H (R249). -/
def execRst28 (s : State) : Result := finish 16 (callTo 0x0028#16 s)

/-- RST 30H (R249). -/
def execRst30 (s : State) : Result := finish 16 (callTo 0x0030#16 s)

/-- RST 38H (R249). -/
def execRst38 (s : State) : Result := finish 16 (callTo 0x0038#16 s)

end Sys2Proof.Machine
end

