-- ==== Sys2Proof/Machine/Load16.lean ====
section
/-! DEFINITION. 16-bit loads and the stack instructions (42_load16_stack R170 to R176). -/
namespace Sys2Proof.Machine

/-- pair(HL) <- SP + sext_8(e), with the flags of the low-byte addition; SP is not written (R173). -/
def hlFromSpPlus (e : Byte) (s : State) : State :=
  setFlags (spPlusFlags s.rf.sp e) (writePair .hl (spPlus s.rf.sp e) s)

/-- pair(p) <- pop16() (R175, R176). -/
def popPair (p : Pair) (s : State) : State :=
  let (v, s1) := pop16 s
  writePair p v s1

/-- LD BC,d16 (R170). -/
def execLdBcD16 (v : Word) (s : State) : Result := finish 12 (writeRp .bc v s)

/-- LD (a16),SP (R171). -/
def execLdMemA16Sp (a : Word) (s : State) : Result := finish 20 (writeWord a s.rf.sp s)

/-- LD DE,d16 (R170). -/
def execLdDeD16 (v : Word) (s : State) : Result := finish 12 (writeRp .de v s)

/-- LD HL,d16 (R170). -/
def execLdHlD16 (v : Word) (s : State) : Result := finish 12 (writeRp .hl v s)

/-- LD SP,d16 (R170). -/
def execLdSpD16 (v : Word) (s : State) : Result := finish 12 (writeRp .sp v s)

/-- LD HL,SP+e8 (R173). -/
def execLdHlSpE8 (e : Byte) (s : State) : Result := finish 12 (hlFromSpPlus e s)

/-- POP BC (R176). -/
def execPopBc (s : State) : Result := finish 12 (popPair .bc s)

/-- PUSH BC (R174). -/
def execPushBc (s : State) : Result := finish 16 (push16 (readPair .bc s) s)

/-- POP DE (R176). -/
def execPopDe (s : State) : Result := finish 12 (popPair .de s)

/-- PUSH DE (R174). -/
def execPushDe (s : State) : Result := finish 16 (push16 (readPair .de s) s)

/-- POP HL (R176). -/
def execPopHl (s : State) : Result := finish 12 (popPair .hl s)

/-- PUSH HL (R174). -/
def execPushHl (s : State) : Result := finish 16 (push16 (readPair .hl s) s)

/-- POP AF (R175). -/
def execPopAf (s : State) : Result := finish 12 (popPair .af s)

/-- PUSH AF (R174). -/
def execPushAf (s : State) : Result := finish 16 (push16 (readPair .af s) s)

/-- LD SP,HL (R172). -/
def execLdSpHl (s : State) : Result := finish 8 (setSp (readPair .hl s) s)

end Sys2Proof.Machine
end

