-- ==== Sys2Proof/Machine/Load8.lean ====
section
/-! DEFINITION. 8-bit loads and stores (41_load8 R150 to R168). No meaning here writes a flag. Every meaning starts after the
instruction's bytes have been fetched (Machine/Fetch). -/
namespace Sys2Proof.Machine

/-- x[r] <- v (R150, R151). -/
def loadReg (r : Reg8) (v : Byte) (s : State) : State := writeReg r v s

/-- x[r] <- MemRead(a, 1): the address is formed before the write (R152, R155, R156, R159, R161, R163). -/
def loadFrom (r : Reg8) (a : Word) (s : State) : State :=
  let (v, s1) := readByte a s
  writeReg r v s1

/-- MemWrite(a, 1, v) (R153, R154, R157, R158, R160, R162, R164). -/
def storeAt (a : Word) (v : Byte) (s : State) : State := writeByte a v s

/-- a <- pair(HL); MemWrite(a, 1, A); pair(HL) <- step a (R165, R166). -/
def storeAThenHl (step : Word → Word) (s : State) : State :=
  let a := readPair .hl s
  writePair .hl (step a) (writeByte a (readReg .a s) s)

/-- a <- pair(HL); A <- MemRead(a, 1); pair(HL) <- step a (R167, R168). -/
def loadAThenHl (step : Word → Word) (s : State) : State :=
  let a := readPair .hl s
  let (v, s1) := readByte a s
  writePair .hl (step a) (writeReg .a v s1)

/-- LD B,d8 (R151). -/
def execLdBD8 (v : Byte) (s : State) : Result := finish 8 (loadReg .b v s)

/-- LD C,d8 (R151). -/
def execLdCD8 (v : Byte) (s : State) : Result := finish 8 (loadReg .c v s)

/-- LD D,d8 (R151). -/
def execLdDD8 (v : Byte) (s : State) : Result := finish 8 (loadReg .d v s)

/-- LD E,d8 (R151). -/
def execLdED8 (v : Byte) (s : State) : Result := finish 8 (loadReg .e v s)

/-- LD H,d8 (R151). -/
def execLdHD8 (v : Byte) (s : State) : Result := finish 8 (loadReg .h v s)

/-- LD L,d8 (R151). -/
def execLdLD8 (v : Byte) (s : State) : Result := finish 8 (loadReg .l v s)

/-- LD (HL),d8 (R154). -/
def execLdMemHlD8 (v : Byte) (s : State) : Result := finish 12 (storeAt (readPair .hl s) v s)

/-- LD A,d8 (R151). -/
def execLdAD8 (v : Byte) (s : State) : Result := finish 8 (loadReg .a v s)

/-- LDH (a8),A (R162). -/
def execLdhMemA8A (o : Byte) (s : State) : Result := finish 12 (storeAt (highPage o) (readReg .a s) s)

/-- LD (a16),A (R160). -/
def execLdMemA16A (a : Word) (s : State) : Result := finish 16 (storeAt (a) (readReg .a s) s)

/-- LDH A,(a8) (R161). -/
def execLdhAMemA8 (o : Byte) (s : State) : Result := finish 12 (loadFrom .a (highPage o) s)

/-- LD A,(a16) (R159). -/
def execLdAMemA16 (a : Word) (s : State) : Result := finish 16 (loadFrom .a (a) s)

/-- LD (BC),A (R157). -/
def execLdMemBcA (s : State) : Result := finish 8 (storeAt (readPair .bc s) (readReg .a s) s)

/-- LD A,(BC) (R155). -/
def execLdAMemBc (s : State) : Result := finish 8 (loadFrom .a (readPair .bc s) s)

/-- LD (DE),A (R158). -/
def execLdMemDeA (s : State) : Result := finish 8 (storeAt (readPair .de s) (readReg .a s) s)

/-- LD A,(DE) (R156). -/
def execLdAMemDe (s : State) : Result := finish 8 (loadFrom .a (readPair .de s) s)

/-- LD (HL+),A (R165). -/
def execLdMemHlIncA (s : State) : Result := finish 8 (storeAThenHl (· + 1) s)

/-- LD A,(HL+) (R167). -/
def execLdAMemHlInc (s : State) : Result := finish 8 (loadAThenHl (· + 1) s)

/-- LD (HL-),A (R166). -/
def execLdMemHlDecA (s : State) : Result := finish 8 (storeAThenHl (· - 1) s)

/-- LD A,(HL-) (R168). -/
def execLdAMemHlDec (s : State) : Result := finish 8 (loadAThenHl (· - 1) s)

/-- LD B,B (R150). -/
def execLdBB (s : State) : Result := finish 4 (loadReg .b (readReg .b s) s)

/-- LD B,C (R150). -/
def execLdBC (s : State) : Result := finish 4 (loadReg .b (readReg .c s) s)

/-- LD B,D (R150). -/
def execLdBD (s : State) : Result := finish 4 (loadReg .b (readReg .d s) s)

/-- LD B,E (R150). -/
def execLdBE (s : State) : Result := finish 4 (loadReg .b (readReg .e s) s)

/-- LD B,H (R150). -/
def execLdBH (s : State) : Result := finish 4 (loadReg .b (readReg .h s) s)

/-- LD B,L (R150). -/
def execLdBL (s : State) : Result := finish 4 (loadReg .b (readReg .l s) s)

/-- LD B,(HL) (R152). -/
def execLdBMemHl (s : State) : Result := finish 8 (loadFrom .b (readPair .hl s) s)

/-- LD B,A (R150). -/
def execLdBA (s : State) : Result := finish 4 (loadReg .b (readReg .a s) s)

/-- LD C,B (R150). -/
def execLdCB (s : State) : Result := finish 4 (loadReg .c (readReg .b s) s)

/-- LD C,C (R150). -/
def execLdCC (s : State) : Result := finish 4 (loadReg .c (readReg .c s) s)

/-- LD C,D (R150). -/
def execLdCD (s : State) : Result := finish 4 (loadReg .c (readReg .d s) s)

/-- LD C,E (R150). -/
def execLdCE (s : State) : Result := finish 4 (loadReg .c (readReg .e s) s)

/-- LD C,H (R150). -/
def execLdCH (s : State) : Result := finish 4 (loadReg .c (readReg .h s) s)

/-- LD C,L (R150). -/
def execLdCL (s : State) : Result := finish 4 (loadReg .c (readReg .l s) s)

/-- LD C,(HL) (R152). -/
def execLdCMemHl (s : State) : Result := finish 8 (loadFrom .c (readPair .hl s) s)

/-- LD C,A (R150). -/
def execLdCA (s : State) : Result := finish 4 (loadReg .c (readReg .a s) s)

/-- LD D,B (R150). -/
def execLdDB (s : State) : Result := finish 4 (loadReg .d (readReg .b s) s)

/-- LD D,C (R150). -/
def execLdDC (s : State) : Result := finish 4 (loadReg .d (readReg .c s) s)

/-- LD D,D (R150). -/
def execLdDD (s : State) : Result := finish 4 (loadReg .d (readReg .d s) s)

/-- LD D,E (R150). -/
def execLdDE (s : State) : Result := finish 4 (loadReg .d (readReg .e s) s)

/-- LD D,H (R150). -/
def execLdDH (s : State) : Result := finish 4 (loadReg .d (readReg .h s) s)

/-- LD D,L (R150). -/
def execLdDL (s : State) : Result := finish 4 (loadReg .d (readReg .l s) s)

/-- LD D,(HL) (R152). -/
def execLdDMemHl (s : State) : Result := finish 8 (loadFrom .d (readPair .hl s) s)

/-- LD D,A (R150). -/
def execLdDA (s : State) : Result := finish 4 (loadReg .d (readReg .a s) s)

/-- LD E,B (R150). -/
def execLdEB (s : State) : Result := finish 4 (loadReg .e (readReg .b s) s)

/-- LD E,C (R150). -/
def execLdEC (s : State) : Result := finish 4 (loadReg .e (readReg .c s) s)

/-- LD E,D (R150). -/
def execLdED (s : State) : Result := finish 4 (loadReg .e (readReg .d s) s)

/-- LD E,E (R150). -/
def execLdEE (s : State) : Result := finish 4 (loadReg .e (readReg .e s) s)

/-- LD E,H (R150). -/
def execLdEH (s : State) : Result := finish 4 (loadReg .e (readReg .h s) s)

/-- LD E,L (R150). -/
def execLdEL (s : State) : Result := finish 4 (loadReg .e (readReg .l s) s)

/-- LD E,(HL) (R152). -/
def execLdEMemHl (s : State) : Result := finish 8 (loadFrom .e (readPair .hl s) s)

/-- LD E,A (R150). -/
def execLdEA (s : State) : Result := finish 4 (loadReg .e (readReg .a s) s)

/-- LD H,B (R150). -/
def execLdHB (s : State) : Result := finish 4 (loadReg .h (readReg .b s) s)

/-- LD H,C (R150). -/
def execLdHC (s : State) : Result := finish 4 (loadReg .h (readReg .c s) s)

/-- LD H,D (R150). -/
def execLdHD (s : State) : Result := finish 4 (loadReg .h (readReg .d s) s)

/-- LD H,E (R150). -/
def execLdHE (s : State) : Result := finish 4 (loadReg .h (readReg .e s) s)

/-- LD H,H (R150). -/
def execLdHH (s : State) : Result := finish 4 (loadReg .h (readReg .h s) s)

/-- LD H,L (R150). -/
def execLdHL (s : State) : Result := finish 4 (loadReg .h (readReg .l s) s)

/-- LD H,(HL) (R152). -/
def execLdHMemHl (s : State) : Result := finish 8 (loadFrom .h (readPair .hl s) s)

/-- LD H,A (R150). -/
def execLdHA (s : State) : Result := finish 4 (loadReg .h (readReg .a s) s)

/-- LD L,B (R150). -/
def execLdLB (s : State) : Result := finish 4 (loadReg .l (readReg .b s) s)

/-- LD L,C (R150). -/
def execLdLC (s : State) : Result := finish 4 (loadReg .l (readReg .c s) s)

/-- LD L,D (R150). -/
def execLdLD (s : State) : Result := finish 4 (loadReg .l (readReg .d s) s)

/-- LD L,E (R150). -/
def execLdLE (s : State) : Result := finish 4 (loadReg .l (readReg .e s) s)

/-- LD L,H (R150). -/
def execLdLH (s : State) : Result := finish 4 (loadReg .l (readReg .h s) s)

/-- LD L,L (R150). -/
def execLdLL (s : State) : Result := finish 4 (loadReg .l (readReg .l s) s)

/-- LD L,(HL) (R152). -/
def execLdLMemHl (s : State) : Result := finish 8 (loadFrom .l (readPair .hl s) s)

/-- LD L,A (R150). -/
def execLdLA (s : State) : Result := finish 4 (loadReg .l (readReg .a s) s)

/-- LD (HL),B (R153). -/
def execLdMemHlB (s : State) : Result := finish 8 (storeAt (readPair .hl s) (readReg .b s) s)

/-- LD (HL),C (R153). -/
def execLdMemHlC (s : State) : Result := finish 8 (storeAt (readPair .hl s) (readReg .c s) s)

/-- LD (HL),D (R153). -/
def execLdMemHlD (s : State) : Result := finish 8 (storeAt (readPair .hl s) (readReg .d s) s)

/-- LD (HL),E (R153). -/
def execLdMemHlE (s : State) : Result := finish 8 (storeAt (readPair .hl s) (readReg .e s) s)

/-- LD (HL),H (R153). -/
def execLdMemHlH (s : State) : Result := finish 8 (storeAt (readPair .hl s) (readReg .h s) s)

/-- LD (HL),L (R153). -/
def execLdMemHlL (s : State) : Result := finish 8 (storeAt (readPair .hl s) (readReg .l s) s)

/-- LD (HL),A (R153). -/
def execLdMemHlA (s : State) : Result := finish 8 (storeAt (readPair .hl s) (readReg .a s) s)

/-- LD A,B (R150). -/
def execLdAB (s : State) : Result := finish 4 (loadReg .a (readReg .b s) s)

/-- LD A,C (R150). -/
def execLdAC (s : State) : Result := finish 4 (loadReg .a (readReg .c s) s)

/-- LD A,D (R150). -/
def execLdAD (s : State) : Result := finish 4 (loadReg .a (readReg .d s) s)

/-- LD A,E (R150). -/
def execLdAE (s : State) : Result := finish 4 (loadReg .a (readReg .e s) s)

/-- LD A,H (R150). -/
def execLdAH (s : State) : Result := finish 4 (loadReg .a (readReg .h s) s)

/-- LD A,L (R150). -/
def execLdAL (s : State) : Result := finish 4 (loadReg .a (readReg .l s) s)

/-- LD A,(HL) (R152). -/
def execLdAMemHl (s : State) : Result := finish 8 (loadFrom .a (readPair .hl s) s)

/-- LD A,A (R150). -/
def execLdAA (s : State) : Result := finish 4 (loadReg .a (readReg .a s) s)

/-- LD (C),A (R164). -/
def execLdMemCA (s : State) : Result := finish 8 (storeAt (highPage (readReg .c s)) (readReg .a s) s)

/-- LD A,(C) (R163). -/
def execLdAMemC (s : State) : Result := finish 8 (loadFrom .a (highPage (readReg .c s)) s)

end Sys2Proof.Machine
end

