-- ==== Sys2Proof/Machine/Shift.lean ====
section
/-! DEFINITION. The accumulator rotates and the extended shift and rotate group (45_rotate_shift_bit R210 to R224). -/
namespace Sys2Proof.Machine

/-- An accumulator rotate: the extended operation on A, but Z = 0 always (R213 to R216). -/
def rotateA (op : Byte → Flags → Byte × Bool) (s : State) : State :=
  let r := op s.rf.a s.rf.f
  setFlags (rotateAFlags r.2) (writeReg .a r.1 s)

/-- v <- readR8(z); compute; writeR8(z, r); flags (R211, R212). -/
def shiftR8 (op : Byte → Flags → Byte × Bool) (o : R8) (s : State) : State :=
  let (v, s1) := readR8 o s
  let r := op v s.rf.f
  setFlags (shiftFlags r.1 r.2) (writeR8 o r.1 s1)

/-- RLCA (R213). -/
def execRlca (s : State) : Result := finish 4 (rotateA opRlc s)

/-- RRCA (R214). -/
def execRrca (s : State) : Result := finish 4 (rotateA opRrc s)

/-- RLA (R215). -/
def execRla (s : State) : Result := finish 4 (rotateA opRl s)

/-- RRA (R216). -/
def execRra (s : State) : Result := finish 4 (rotateA opRr s)

/-- RLC B (R217). -/
def execRlcB (s : State) : Result := finish 8 (shiftR8 opRlc .b s)

/-- RLC C (R217). -/
def execRlcC (s : State) : Result := finish 8 (shiftR8 opRlc .c s)

/-- RLC D (R217). -/
def execRlcD (s : State) : Result := finish 8 (shiftR8 opRlc .d s)

/-- RLC E (R217). -/
def execRlcE (s : State) : Result := finish 8 (shiftR8 opRlc .e s)

/-- RLC H (R217). -/
def execRlcH (s : State) : Result := finish 8 (shiftR8 opRlc .h s)

/-- RLC L (R217). -/
def execRlcL (s : State) : Result := finish 8 (shiftR8 opRlc .l s)

/-- RLC (HL) (R217). -/
def execRlcMemHl (s : State) : Result := finish 16 (shiftR8 opRlc .hl s)

/-- RLC A (R217). -/
def execRlcA (s : State) : Result := finish 8 (shiftR8 opRlc .a s)

/-- RRC B (R218). -/
def execRrcB (s : State) : Result := finish 8 (shiftR8 opRrc .b s)

/-- RRC C (R218). -/
def execRrcC (s : State) : Result := finish 8 (shiftR8 opRrc .c s)

/-- RRC D (R218). -/
def execRrcD (s : State) : Result := finish 8 (shiftR8 opRrc .d s)

/-- RRC E (R218). -/
def execRrcE (s : State) : Result := finish 8 (shiftR8 opRrc .e s)

/-- RRC H (R218). -/
def execRrcH (s : State) : Result := finish 8 (shiftR8 opRrc .h s)

/-- RRC L (R218). -/
def execRrcL (s : State) : Result := finish 8 (shiftR8 opRrc .l s)

/-- RRC (HL) (R218). -/
def execRrcMemHl (s : State) : Result := finish 16 (shiftR8 opRrc .hl s)

/-- RRC A (R218). -/
def execRrcA (s : State) : Result := finish 8 (shiftR8 opRrc .a s)

/-- RL B (R219). -/
def execRlB (s : State) : Result := finish 8 (shiftR8 opRl .b s)

/-- RL C (R219). -/
def execRlC (s : State) : Result := finish 8 (shiftR8 opRl .c s)

/-- RL D (R219). -/
def execRlD (s : State) : Result := finish 8 (shiftR8 opRl .d s)

/-- RL E (R219). -/
def execRlE (s : State) : Result := finish 8 (shiftR8 opRl .e s)

/-- RL H (R219). -/
def execRlH (s : State) : Result := finish 8 (shiftR8 opRl .h s)

/-- RL L (R219). -/
def execRlL (s : State) : Result := finish 8 (shiftR8 opRl .l s)

/-- RL (HL) (R219). -/
def execRlMemHl (s : State) : Result := finish 16 (shiftR8 opRl .hl s)

/-- RL A (R219). -/
def execRlA (s : State) : Result := finish 8 (shiftR8 opRl .a s)

/-- RR B (R220). -/
def execRrB (s : State) : Result := finish 8 (shiftR8 opRr .b s)

/-- RR C (R220). -/
def execRrC (s : State) : Result := finish 8 (shiftR8 opRr .c s)

/-- RR D (R220). -/
def execRrD (s : State) : Result := finish 8 (shiftR8 opRr .d s)

/-- RR E (R220). -/
def execRrE (s : State) : Result := finish 8 (shiftR8 opRr .e s)

/-- RR H (R220). -/
def execRrH (s : State) : Result := finish 8 (shiftR8 opRr .h s)

/-- RR L (R220). -/
def execRrL (s : State) : Result := finish 8 (shiftR8 opRr .l s)

/-- RR (HL) (R220). -/
def execRrMemHl (s : State) : Result := finish 16 (shiftR8 opRr .hl s)

/-- RR A (R220). -/
def execRrA (s : State) : Result := finish 8 (shiftR8 opRr .a s)

/-- SLA B (R221). -/
def execSlaB (s : State) : Result := finish 8 (shiftR8 opSla .b s)

/-- SLA C (R221). -/
def execSlaC (s : State) : Result := finish 8 (shiftR8 opSla .c s)

/-- SLA D (R221). -/
def execSlaD (s : State) : Result := finish 8 (shiftR8 opSla .d s)

/-- SLA E (R221). -/
def execSlaE (s : State) : Result := finish 8 (shiftR8 opSla .e s)

/-- SLA H (R221). -/
def execSlaH (s : State) : Result := finish 8 (shiftR8 opSla .h s)

/-- SLA L (R221). -/
def execSlaL (s : State) : Result := finish 8 (shiftR8 opSla .l s)

/-- SLA (HL) (R221). -/
def execSlaMemHl (s : State) : Result := finish 16 (shiftR8 opSla .hl s)

/-- SLA A (R221). -/
def execSlaA (s : State) : Result := finish 8 (shiftR8 opSla .a s)

/-- SRA B (R222). -/
def execSraB (s : State) : Result := finish 8 (shiftR8 opSra .b s)

/-- SRA C (R222). -/
def execSraC (s : State) : Result := finish 8 (shiftR8 opSra .c s)

/-- SRA D (R222). -/
def execSraD (s : State) : Result := finish 8 (shiftR8 opSra .d s)

/-- SRA E (R222). -/
def execSraE (s : State) : Result := finish 8 (shiftR8 opSra .e s)

/-- SRA H (R222). -/
def execSraH (s : State) : Result := finish 8 (shiftR8 opSra .h s)

/-- SRA L (R222). -/
def execSraL (s : State) : Result := finish 8 (shiftR8 opSra .l s)

/-- SRA (HL) (R222). -/
def execSraMemHl (s : State) : Result := finish 16 (shiftR8 opSra .hl s)

/-- SRA A (R222). -/
def execSraA (s : State) : Result := finish 8 (shiftR8 opSra .a s)

/-- SWAP B (R223). -/
def execSwapB (s : State) : Result := finish 8 (shiftR8 opSwap .b s)

/-- SWAP C (R223). -/
def execSwapC (s : State) : Result := finish 8 (shiftR8 opSwap .c s)

/-- SWAP D (R223). -/
def execSwapD (s : State) : Result := finish 8 (shiftR8 opSwap .d s)

/-- SWAP E (R223). -/
def execSwapE (s : State) : Result := finish 8 (shiftR8 opSwap .e s)

/-- SWAP H (R223). -/
def execSwapH (s : State) : Result := finish 8 (shiftR8 opSwap .h s)

/-- SWAP L (R223). -/
def execSwapL (s : State) : Result := finish 8 (shiftR8 opSwap .l s)

/-- SWAP (HL) (R223). -/
def execSwapMemHl (s : State) : Result := finish 16 (shiftR8 opSwap .hl s)

/-- SWAP A (R223). -/
def execSwapA (s : State) : Result := finish 8 (shiftR8 opSwap .a s)

/-- SRL B (R224). -/
def execSrlB (s : State) : Result := finish 8 (shiftR8 opSrl .b s)

/-- SRL C (R224). -/
def execSrlC (s : State) : Result := finish 8 (shiftR8 opSrl .c s)

/-- SRL D (R224). -/
def execSrlD (s : State) : Result := finish 8 (shiftR8 opSrl .d s)

/-- SRL E (R224). -/
def execSrlE (s : State) : Result := finish 8 (shiftR8 opSrl .e s)

/-- SRL H (R224). -/
def execSrlH (s : State) : Result := finish 8 (shiftR8 opSrl .h s)

/-- SRL L (R224). -/
def execSrlL (s : State) : Result := finish 8 (shiftR8 opSrl .l s)

/-- SRL (HL) (R224). -/
def execSrlMemHl (s : State) : Result := finish 16 (shiftR8 opSrl .hl s)

/-- SRL A (R224). -/
def execSrlA (s : State) : Result := finish 8 (shiftR8 opSrl .a s)

end Sys2Proof.Machine
end

