-- ==== Sys2Proof/Machine/Prefix.lean ====
section
/-! DEFINITION. The 0xCB dispatch entry: fetch-extended and the extended table's behaviours (40_sequencer R133, R134). -/
namespace Sys2Proof.Machine

/-- Behaviours of the extended opcodes 0x00 to 0x0F (R110). -/
def extendedMeanings0 : List (State → Result) := [
  execRlcB, execRlcC, execRlcD, execRlcE,
  execRlcH, execRlcL, execRlcMemHl, execRlcA,
  execRrcB, execRrcC, execRrcD, execRrcE,
  execRrcH, execRrcL, execRrcMemHl, execRrcA]

/-- Behaviours of the extended opcodes 0x10 to 0x1F (R110). -/
def extendedMeanings1 : List (State → Result) := [
  execRlB, execRlC, execRlD, execRlE,
  execRlH, execRlL, execRlMemHl, execRlA,
  execRrB, execRrC, execRrD, execRrE,
  execRrH, execRrL, execRrMemHl, execRrA]

/-- Behaviours of the extended opcodes 0x20 to 0x2F (R110). -/
def extendedMeanings2 : List (State → Result) := [
  execSlaB, execSlaC, execSlaD, execSlaE,
  execSlaH, execSlaL, execSlaMemHl, execSlaA,
  execSraB, execSraC, execSraD, execSraE,
  execSraH, execSraL, execSraMemHl, execSraA]

/-- Behaviours of the extended opcodes 0x30 to 0x3F (R110). -/
def extendedMeanings3 : List (State → Result) := [
  execSwapB, execSwapC, execSwapD, execSwapE,
  execSwapH, execSwapL, execSwapMemHl, execSwapA,
  execSrlB, execSrlC, execSrlD, execSrlE,
  execSrlH, execSrlL, execSrlMemHl, execSrlA]

/-- Behaviours of the extended opcodes 0x40 to 0x4F (R110). -/
def extendedMeanings4 : List (State → Result) := [
  execBit0B, execBit0C, execBit0D, execBit0E,
  execBit0H, execBit0L, execBit0MemHl, execBit0A,
  execBit1B, execBit1C, execBit1D, execBit1E,
  execBit1H, execBit1L, execBit1MemHl, execBit1A]

/-- Behaviours of the extended opcodes 0x50 to 0x5F (R110). -/
def extendedMeanings5 : List (State → Result) := [
  execBit2B, execBit2C, execBit2D, execBit2E,
  execBit2H, execBit2L, execBit2MemHl, execBit2A,
  execBit3B, execBit3C, execBit3D, execBit3E,
  execBit3H, execBit3L, execBit3MemHl, execBit3A]

/-- Behaviours of the extended opcodes 0x60 to 0x6F (R110). -/
def extendedMeanings6 : List (State → Result) := [
  execBit4B, execBit4C, execBit4D, execBit4E,
  execBit4H, execBit4L, execBit4MemHl, execBit4A,
  execBit5B, execBit5C, execBit5D, execBit5E,
  execBit5H, execBit5L, execBit5MemHl, execBit5A]

/-- Behaviours of the extended opcodes 0x70 to 0x7F (R110). -/
def extendedMeanings7 : List (State → Result) := [
  execBit6B, execBit6C, execBit6D, execBit6E,
  execBit6H, execBit6L, execBit6MemHl, execBit6A,
  execBit7B, execBit7C, execBit7D, execBit7E,
  execBit7H, execBit7L, execBit7MemHl, execBit7A]

/-- Behaviours of the extended opcodes 0x80 to 0x8F (R110). -/
def extendedMeanings8 : List (State → Result) := [
  execRes0B, execRes0C, execRes0D, execRes0E,
  execRes0H, execRes0L, execRes0MemHl, execRes0A,
  execRes1B, execRes1C, execRes1D, execRes1E,
  execRes1H, execRes1L, execRes1MemHl, execRes1A]

/-- Behaviours of the extended opcodes 0x90 to 0x9F (R110). -/
def extendedMeanings9 : List (State → Result) := [
  execRes2B, execRes2C, execRes2D, execRes2E,
  execRes2H, execRes2L, execRes2MemHl, execRes2A,
  execRes3B, execRes3C, execRes3D, execRes3E,
  execRes3H, execRes3L, execRes3MemHl, execRes3A]

/-- Behaviours of the extended opcodes 0xA0 to 0xAF (R110). -/
def extendedMeaningsA : List (State → Result) := [
  execRes4B, execRes4C, execRes4D, execRes4E,
  execRes4H, execRes4L, execRes4MemHl, execRes4A,
  execRes5B, execRes5C, execRes5D, execRes5E,
  execRes5H, execRes5L, execRes5MemHl, execRes5A]

/-- Behaviours of the extended opcodes 0xB0 to 0xBF (R110). -/
def extendedMeaningsB : List (State → Result) := [
  execRes6B, execRes6C, execRes6D, execRes6E,
  execRes6H, execRes6L, execRes6MemHl, execRes6A,
  execRes7B, execRes7C, execRes7D, execRes7E,
  execRes7H, execRes7L, execRes7MemHl, execRes7A]

/-- Behaviours of the extended opcodes 0xC0 to 0xCF (R110). -/
def extendedMeaningsC : List (State → Result) := [
  execSet0B, execSet0C, execSet0D, execSet0E,
  execSet0H, execSet0L, execSet0MemHl, execSet0A,
  execSet1B, execSet1C, execSet1D, execSet1E,
  execSet1H, execSet1L, execSet1MemHl, execSet1A]

/-- Behaviours of the extended opcodes 0xD0 to 0xDF (R110). -/
def extendedMeaningsD : List (State → Result) := [
  execSet2B, execSet2C, execSet2D, execSet2E,
  execSet2H, execSet2L, execSet2MemHl, execSet2A,
  execSet3B, execSet3C, execSet3D, execSet3E,
  execSet3H, execSet3L, execSet3MemHl, execSet3A]

/-- Behaviours of the extended opcodes 0xE0 to 0xEF (R110). -/
def extendedMeaningsE : List (State → Result) := [
  execSet4B, execSet4C, execSet4D, execSet4E,
  execSet4H, execSet4L, execSet4MemHl, execSet4A,
  execSet5B, execSet5C, execSet5D, execSet5E,
  execSet5H, execSet5L, execSet5MemHl, execSet5A]

/-- Behaviours of the extended opcodes 0xF0 to 0xFF (R110). -/
def extendedMeaningsF : List (State → Result) := [
  execSet6B, execSet6C, execSet6D, execSet6E,
  execSet6H, execSet6L, execSet6MemHl, execSet6A,
  execSet7B, execSet7C, execSet7D, execSet7E,
  execSet7H, execSet7L, execSet7MemHl, execSet7A]

/-- The behaviours of the extended table, row by row (R110). -/
def extendedMeanings : List (List (State → Result)) := [
  extendedMeanings0, extendedMeanings1, extendedMeanings2, extendedMeanings3,
  extendedMeanings4, extendedMeanings5, extendedMeanings6, extendedMeanings7,
  extendedMeanings8, extendedMeanings9, extendedMeaningsA, extendedMeaningsB,
  extendedMeaningsC, extendedMeaningsD, extendedMeaningsE, extendedMeaningsF]

/-- The behaviour of an extended opcode; the table has no gaps, so the default is never used (R134). -/
def extendedMeaning (op2 : Byte) : State → Result :=
  (extendedMeanings.getD (op2.toNat / 16) []).getD (op2.toNat % 16) execRlcB

/-- The fetch-extended half of a step: one more byte, its extended entry's behaviour, and fetch-primary again when the step
ends (R133, R134). -/
def extendedStep (s : State) : Result :=
  let (op2, s1) := fetch8 s
  extendedMeaning op2 (setSeq .fetchPrimary s1)

/-- PREFIX CB: enter fetch-extended and run the extended half; the entry itself costs 0 (R133). -/
def execPrefixCb (s : State) : Result := extendedStep (setSeq .fetchExtended s)

end Sys2Proof.Machine
end

