-- ==== Sys2Proof/Machine/System.lean ====
section
/-! DEFINITION. NOP, HALT, STOP, DI, EI (47_system R260 to R264) and the undefined opcodes (40_sequencer R135). -/
namespace Sys2Proof.Machine


/-- STOP (R262). -/
def execStop (_ : Byte) (s : State) : Result := finish 4 (halt s)

/-- An undefined opcode: reported with the address it was fetched from (R135). -/
def execUndefined (op : Byte) (s : State) : Result := finish 4 (emit (.undefinedOpcode op (s.rf.pc - 1)) s)

/-- NOP (R260). -/
def execNop (s : State) : Result := finish 4 (s)

/-- HALT (R261). -/
def execHalt (s : State) : Result := finish 4 (halt s)

/-- DI (R263). -/
def execDi (s : State) : Result := finish 4 (setIme false s)

/-- EI (R264). -/
def execEi (s : State) : Result := finish 4 (setIme true s)

end Sys2Proof.Machine
end

