-- ==== Sys2Proof/Machine/Fetch.lean ====
section
/-! DEFINITION. Fetching an instruction: the opcode through the bus, its primary entry, and its operand bytes (40_sequencer R130
to R132, R136); and storing an instruction's bytes where the next fetch reads them, for withFetchWord. -/
namespace Sys2Proof.Machine

/-- The operand bytes of an entry, fetched in order, and the instruction they complete (R108, R136). Every rule of the spec
fetches its operand bytes before any other access, so they are fetched here, before the meaning (log entry 6). -/
def fetchOperands (form : Form) (s : State) : Instr × State :=
  match form with
  | .plain i => (i, s)
  | .byte f =>
    let (v, s1) := fetch8 s
    (f v, s1)
  | .word f =>
    let (v, s1) := fetch16 s
    (f v, s1)

/-- One opcode byte, its primary entry, and its operand bytes; 0xCB gives its dispatch entry and an undefined opcode is kept
with its byte (R130 to R133, R135). -/
def fetchInstr (s : State) : Instr × State :=
  let (op, s1) := fetch8 s
  match primary op with
  | none => (.undefined op, s1)
  | some d => fetchOperands d.form s1

/-- The next bytes fetches read, in order, and the state after them (R131). -/
def fetchBytes : Nat → State → List Byte × State
  | 0, s => ([], s)
  | n + 1, s =>
    let (v, s1) := fetch8 s
    let (vs, s2) := fetchBytes n s1
    (v :: vs, s2)

/-- A list with the element at one index replaced, made longer with a filler where it is too short. -/
def setPadded (l : List Byte) (k : Nat) (v filler : Byte) : List Byte :=
  (l ++ List.replicate (k + 1 - l.length) filler).set k v

/-- Whether an address has a store behind it, so that a byte can be placed there for a fetch (R64). -/
def isStored (a : Word) : Bool :=
  match region a with
  | .rom | .eram | .wram | .wramMirror | .zram => true
  | .graphics | .oam | .unusable | .io => false

/-- The bus with a byte placed where a read of an address finds it: in the BIOS image, the ROM image or RAM. -/
def Bus.place (b : Bus) (a : Word) (v : Byte) : Bus :=
  match region a with
  | .rom =>
    if b.overlaid a then { b with cfg := { b.cfg with bios := b.cfg.bios.set (Fin.ofNat 256 a.toNat).val v } }
    else { b with cfg := { b.cfg with rom := setPadded b.cfg.rom a.toNat v b.cfg.romPad } }
  | .eram | .wram | .wramMirror | .zram => b.store a v
  | .graphics | .oam | .unusable | .io => b

/-- Bytes placed from an address on. -/
def Bus.placeAll (b : Bus) (a : Word) : List Byte → Bus
  | [] => b
  | v :: vs => Bus.placeAll (b.place a v) (a + 1) vs

/-- Where an instruction's bytes can be placed for the next fetch: PC, or 0xC000 where one of the bytes would fall into a
region with no store. -/
def placeAddress (pc : Word) (bytes : List Byte) : Word :=
  if (List.range bytes.length).all (fun k => isStored (pc + BitVec.ofNat 16 k)) then pc else 0xC000#16

end Sys2Proof.Machine
end

