-- ==== Sys2Proof/Machine/Step.lean ====
section
/-! DEFINITION. One step of the sequencer (40_sequencer R130), and a state with an instruction placed for the next fetch. -/
namespace Sys2Proof.Machine

/-- One whole instruction, or one idle cycle group while halted (R130, R137). Fetch-extended exists only inside a step
(R37); a state that is in it would complete the extended half (log entry 5). -/
def step (s : State) : Host.Outcome State Fault Refusal :=
  if s.halted then finish 4 s
  else
    match s.seq with
    | .fetchExtended => extendedStep s
    | .fetchPrimary =>
      let (i, s1) := fetchInstr s
      exec i s1

/-- The state with a table word's instruction placed where the next step fetches: its bytes (zeros above nbits) at PC, in
whichever store a fetch there reads; not halted and in fetch-primary, so that the next step runs it (log entry 3). -/
def State.withFetchWord (s : State) (nbits w : Nat) : State :=
  let bytes := tableWordBytes nbits w
  let a := placeAddress s.rf.pc bytes
  { s with
    rf := { s.rf with pc := a }, bus := s.bus.placeAll a bytes, halted := false, seq := .fetchPrimary }

end Sys2Proof.Machine
end

