-- ==== Sys2Proof/Safety.lean ====
section
/-! DEFINITION. The terms claims use: the invariant, a finished run, an instruction's condition, control transfers and stores,
costs and flag effects as the listing states them, and the rules' pseudocode in exact arithmetic (Spec). -/
namespace Sys2Proof

/-- The condition of a conditional instruction (R139). -/
def Instr.condition : Instr → Option Cond
  | .jrNz _ | .jpNz _ | .callNz _ | .retNz => some .nz
  | .jrZ _ | .jpZ _ | .callZ _ | .retZ => some .z
  | .jrNc _ | .jpNc _ | .callNc _ | .retNc => some .nc
  | .jrC _ | .jpC _ | .callC _ | .retC => some .c
  | _ => none

/-- The instructions whose rules write PC after their bytes are fetched (46_control). -/
def Instr.transfersControl : Instr → Bool
  | .jr _ | .jrNz _ | .jrZ _ | .jrNc _ | .jrC _ | .jpNz _ | .jp _ | .callNz _ | .jpZ _ | .callZ _ | .call _ | .jpNc _
  | .callNc _ | .jpC _ | .callC _ | .retNz | .rst00 | .retZ | .ret | .rst08 | .retNc | .rst10 | .retC | .reti
  | .rst18 | .rst20 | .jpHl | .rst28 | .rst30 | .rst38 => true
  | _ => false

/-- The instructions whose rules write the bus (R271). PREFIX CB stands for the instruction it dispatches to. -/
def Instr.storesMemory : Instr → Bool
  | .ldMemA16Sp _ | .ldMemHlD8 _ | .callNz _ | .callZ _ | .call _ | .callNc _ | .callC _ | .ldhMemA8A _
  | .ldMemA16A _ | .ldMemBcA | .ldMemDeA | .ldMemHlIncA | .ldMemHlDecA | .incMemHl | .decMemHl | .ldMemHlB
  | .ldMemHlC | .ldMemHlD | .ldMemHlE | .ldMemHlH | .ldMemHlL | .ldMemHlA | .pushBc | .rst00 | .rst08 | .pushDe
  | .rst10 | .rst18 | .ldMemCA | .pushHl | .rst20 | .rst28 | .pushAf | .rst30 | .rst38 | .rlcMemHl | .rrcMemHl
  | .rlMemHl | .rrMemHl | .slaMemHl | .sraMemHl | .swapMemHl | .srlMemHl | .res0MemHl | .res1MemHl | .res2MemHl
  | .res3MemHl | .res4MemHl | .res5MemHl | .res6MemHl | .res7MemHl | .set0MemHl | .set1MemHl | .set2MemHl
  | .set3MemHl | .set4MemHl | .set5MemHl | .set6MemHl | .set7MemHl => true
  | .prefixCb => true
  | _ => false

namespace Machine

/-- What every step keeps of a state: the RAM stores and RAM_INIT are canonical, and the sequencer is in fetch-primary (R37). -/
abbrev State.Inv (s : State) : Prop :=
  Memory.wf s.bus.ram = true ∧ Memory.wf s.bus.cfg.ramInit = true ∧ s.seq = .fetchPrimary

/-- A run is finished when the block is halted (D32). -/
abbrev State.finished (s : State) : Prop := s.halted = true

/-- The cycles a step consumed: its addition to the counter (R54). -/
def cyclesUsed (before after : State) : Nat := after.cycles - before.cycles

/-- What the listing says a step of an instruction costs, from the flags the instruction starts with: base, and extra where
its condition holds; an undefined opcode costs 4 (R135, R138, R139). -/
def listedCost (i : Instr) (f : Flags) : Nat :=
  match descriptorOf i with
  | none => 4
  | some d =>
    d.base + match i.condition with
      | some cc => if condHolds cc f then d.extra else 0
      | none => 0

/-- Whether a flag moved as its column of the listing says (R109). -/
def flagObeys (e : FlagEffect) (before after : Bool) : Prop :=
  match e with
  | .keep => after = before
  | .clear => after = false
  | .set => after = true
  | .computed => True

/-- Whether all four flags moved as an instruction's row says; an undefined opcode writes none (R109, R135). -/
def flagsObey (i : Instr) (before after : Flags) : Prop :=
  match descriptorOf i with
  | none => after = before
  | some d =>
    flagObeys d.flags.z before.z after.z ∧ flagObeys d.flags.n before.n after.n ∧
      flagObeys d.flags.h before.hf after.hf ∧ flagObeys d.flags.c before.cf after.cf

/-- Instructions executed one after another. -/
def execAll : List Instr → State → Result
  | [], s => .next s
  | i :: is, s =>
    match exec i s with
    | .next t => execAll is t
    | .fault r => .fault r
    | .refused r => .refused r

end Machine

namespace Spec
open Machine

/-! The rules' pseudocode in exact arithmetic, transcribed apart from Machine/Flags. -/

/-- cond(cc) (R14). -/
def cond (cc : Cond) (f : Flags) : Bool :=
  match cc with
  | .nz => !f.z
  | .z => f.z
  | .nc => !f.cf
  | .c => f.cf

/-- ADD and ADC: a, v and the carry in (R181, R182). -/
def add (a v c : Nat) (rf : RegFile) : RegFile :=
  { rf with
    a := BitVec.ofNat 8 (a + v + c)
    f := { z := (a + v + c) % 256 = 0, n := false, hf := (a &&& 0x0F) + (v &&& 0x0F) + c > 0x0F, cf := a + v + c > 0xFF } }

/-- The flags of SUB, SBC and CP (R183, R184, R188). -/
def subF (a v c : Nat) : Flags :=
  { z := ((a : Int) - v - c) % 256 = 0, n := true, hf := (a &&& 0x0F) < (v &&& 0x0F) + c, cf := (a : Int) - v - c < 0 }

/-- SUB and SBC (R183, R184). -/
def sub (a v c : Nat) (rf : RegFile) : RegFile :=
  { rf with a := BitVec.ofInt 8 ((a : Int) - v - c), f := subF a v c }

/-- A logic result with its Hf (R185 to R187). -/
def logic (r : Nat) (hf : Bool) (rf : RegFile) : RegFile :=
  { rf with a := BitVec.ofNat 8 r, f := { z := r = 0, n := false, hf := hf, cf := false } }

/-- The forms of an accumulator operation: an r8 source at 4 cycles, or 8 for (HL), and an immediate at 8 (R180). -/
def AluForms (op : AluOp) (effect : Byte → RegFile → RegFile) : Prop :=
  (∀ (src : R8) (s : State),
    encode (Family.alu op src) = [BitVec.ofNat 8 (0x80 + 8 * op.code + src.code)] ∧
    exec (Family.alu op src) s = .next { (readR8 src s).2 with
      rf := effect (readR8 src s).1 s.rf, cycles := s.cycles + if src = .hl then 8 else 4 }) ∧
  (∀ (v : Byte) (s : State),
    encode (Family.aluD8 op v) = [BitVec.ofNat 8 (0xC6 + 8 * op.code), v] ∧
    exec (Family.aluD8 op v) s = .next { s with rf := effect v s.rf, cycles := s.cycles + 8 })

/-- DAA's correction and its carry (R194). -/
def daaCorr (a : Nat) (f : Flags) : Nat × Bool :=
  let low := if f.hf = true ∨ (f.n = false ∧ (a &&& 0x0F) > 0x09) then 0x06 else 0x00
  if f.cf = true ∨ (f.n = false ∧ a > 0x99) then (low ||| 0x60, true) else (low, f.cf)

/-- DAA (R194). -/
def daa (rf : RegFile) : RegFile :=
  let a := rf.a.toNat
  let corr := daaCorr a rf.f
  let r : Int := if rf.f.n = false then (a : Int) + corr.1 else (a : Int) - corr.1
  { rf with a := BitVec.ofInt 8 r, f := { z := r % 256 = 0, n := rf.f.n, hf := false, cf := corr.2 } }

/-- Two decimal digits as a byte. -/
def bcd (n : Nat) : Byte := BitVec.ofNat 8 (n / 10 * 16 + n % 10)

/-- SP + sext_8(e) (R173, R203). -/
def spPlus (sp : Word) (e : Byte) : Word := BitVec.ofInt 16 ((sp.toNat : Int) + e.toInt)

/-- The flags of SP + e8, from the unsigned byte (R173, R203). -/
def spPlusF (sp : Word) (e : Byte) : Flags :=
  { z := false, n := false, hf := (sp.toNat &&& 0x0F) + (e.toNat &&& 0x0F) > 0x0F, cf := (sp.toNat &&& 0xFF) + e.toNat > 0xFF }

/-- The result and carry of an extended rotate or shift of v with carry in ci, in exact arithmetic (R217 to R224). -/
def shift (op : ShiftOp) (v ci : Nat) : Nat × Bool :=
  match op with
  | .rlc => ((v * 2 + v / 128) % 256, v / 128 = 1)
  | .rrc => (v / 2 + v % 2 * 128, v % 2 = 1)
  | .rl => ((v * 2 + ci) % 256, v / 128 = 1)
  | .rr => (v / 2 + ci * 128, v % 2 = 1)
  | .sla => (v * 2 % 256, v / 128 = 1)
  | .sra => (v / 2, v % 2 = 1)
  | .swap => (v % 16 * 16 + v / 16, false)
  | .srl => (v / 2, v % 2 = 1)

/-- The forms of an extended shift: every r8 operand, 8 cycles or 16 for (HL), result written back (R211, R212). -/
def ShiftForms (op : ShiftOp) : Prop :=
  ∀ (o : R8) (s : State),
    let r := shift op (readR8 o s).1.toNat s.rf.f.cf.toNat
    let t := writeR8 o (BitVec.ofNat 8 r.1) (readR8 o s).2
    encode (Family.shift op o) = [0xCB#8, BitVec.ofNat 8 (8 * op.code + o.code)] ∧
    exec (Family.shift op o) s = .next { t with
      rf := { t.rf with f := { z := r.1 = 0, n := false, hf := false, cf := r.2 } }
      cycles := s.cycles + if o = .hl then 16 else 8 }

/-- An accumulator rotate at an opcode: as the extended one on A, but Z = 0 and 4 cycles (R213 to R216). -/
def RotateAForm (i : Instr) (opcode : Byte) (op : ShiftOp) : Prop :=
  ∀ s : State,
    let r := shift op s.rf.a.toNat s.rf.f.cf.toNat
    encode i = [opcode] ∧
    exec i s = .next { s with
      rf := { s.rf with a := BitVec.ofNat 8 r.1, f := { z := false, n := false, hf := false, cf := r.2 } }
      cycles := s.cycles + 4 }

/-- pair(p) <- v by its two halves (R29). -/
def setPair (p : Pair) (v : Nat) (rf : RegFile) : RegFile :=
  match p with
  | .bc => { rf with b := BitVec.ofNat 8 (v / 256), c := BitVec.ofNat 8 v }
  | .de => { rf with d := BitVec.ofNat 8 (v / 256), e := BitVec.ofNat 8 v }
  | .hl => { rf with h := BitVec.ofNat 8 (v / 256), l := BitVec.ofNat 8 v }
  | .af => { rf with a := BitVec.ofNat 8 (v / 256),
                     f := { z := v / 128 % 2 = 1, n := v / 64 % 2 = 1, hf := v / 32 % 2 = 1, cf := v / 16 % 2 = 1 } }

/-- An rp operand read (R105). -/
def rp (p : Rp) (rf : RegFile) : Nat :=
  match p with
  | .bc => rf.b.toNat * 256 + rf.c.toNat
  | .de => rf.d.toNat * 256 + rf.e.toNat
  | .hl => rf.h.toNat * 256 + rf.l.toNat
  | .sp => rf.sp.toNat

/-- An rp operand written (R105). -/
def setRp (p : Rp) (v : Nat) (rf : RegFile) : RegFile :=
  match p with
  | .bc => setPair .bc v rf
  | .de => setPair .de v rf
  | .hl => setPair .hl v rf
  | .sp => { rf with sp := BitVec.ofNat 16 v }

/-- A word pushed: SP - 2, the low byte at SP, then the high byte at SP + 1 (R177). -/
def push (v : Word) (s : State) : State :=
  writeByte (s.rf.sp - 1) (BitVec.ofNat 8 (v.toNat / 256))
    (writeByte (s.rf.sp - 2) (BitVec.ofNat 8 v.toNat) { s with rf := { s.rf with sp := s.rf.sp - 2 } })

/-- The word a pop reads: the low byte at SP first, then the high byte at SP + 1 (R177). -/
def popped (s : State) : Nat :=
  ((s.bus.touch s.rf.sp).peek (s.rf.sp + 1)).toNat * 256 + (s.bus.peek s.rf.sp).toNat

/-- What a pop leaves of SP and the bus (R177). -/
def afterPop (s : State) : State :=
  { s with rf := { s.rf with sp := s.rf.sp + 2 }, bus := (s.bus.touch s.rf.sp).touch (s.rf.sp + 1) }

end Spec

end Sys2Proof
end

