-- ==== Sys2Proof/Certificates/Slice0/Obligations.lean ====
section
/-! DEFINITION. The statements for the provers, from the numbered rules of spec/. An instruction's statement gives its encoding
and the whole next state, so its result, its cost and its frame are one equation; the state on entry has PC past the
instruction's bytes (R136). -/
open Sys2Proof Sys2Proof.Machine

/-! Encoding and decoding. -/

/-- Decoding what the encoder writes gives the instruction back, whatever bytes follow; 0xCB is decoded alone, since with a byte
after it it is an extended instruction (R100, R101, R109, R110, R113). -/
def Obligations.DecodeEncodeRoundTrip : Prop :=
  (∀ (i : Instr) (rest : List Byte), i.wellFormed = true → i ≠ .prefixCb →
    decode (encode i ++ rest) = .ok (i, rest)) ∧
  decode (encode .prefixCb) = .ok (.prefixCb, [])

/-- What the decoder accepts is exactly an encoding of a well-formed instruction (R112, R117). -/
def Obligations.EncodeDecodeRoundTrip : Prop :=
  ∀ (bytes : List Byte) (i : Instr) (rest : List Byte), decode bytes = .ok (i, rest) →
    i.wellFormed = true ∧ bytes = encode i ++ rest

/-- A few words written out from the listing decode to the instructions they stand for (R109, R110, R113). -/
def Obligations.ListedWordsDecode : Prop :=
  decode [0x00#8] = .ok (.nop, []) ∧ decode [0x06#8, 0x03#8] = .ok (.ldBD8 0x03#8, []) ∧
  decode [0x21#8, 0x34#8, 0x12#8] = .ok (.ldHlD16 0x1234#16, []) ∧ decode [0x80#8] = .ok (.addAB, []) ∧
  decode [0x20#8, 0xFC#8] = .ok (.jrNz 0xFC#8, []) ∧ decode [0xCB#8, 0x47#8] = .ok (.bit0A, []) ∧
  decode [0xCB#8, 0xCB#8] = .ok (.set1E, []) ∧ decode [0xCD#8, 0x00#8, 0xC1#8] = .ok (.call 0xC100#16, []) ∧
  decode [0x10#8, 0x00#8] = .ok (.stop 0x00#8, []) ∧ decode [0xD3#8] = .ok (.undefined 0xD3#8, [])

/-! The sequencer. -/

/-- Where the next bytes decode to an instruction, a step is exec of it at the state after its bytes are fetched; and where the
next byte is 0xCB, the step is exec of the dispatch entry at the state after that byte (R130 to R134, R136). -/
def Obligations.StepRunsDecodedInstruction : Prop :=
  ∀ s : State, s.halted = false → s.seq = .fetchPrimary →
    (∀ (i : Instr) (rest : List Byte), decode (fetchBytes 3 s).1 = .ok (i, rest) →
      step s = exec i (fetchBytes i.length s).2) ∧
    ((fetchBytes 1 s).1 = [0xCB#8] → step s = exec .prefixCb (fetchBytes 1 s).2)

/-- The eleven undefined opcodes have no descriptor; one at PC is reported with its address, PC moves to the next byte, the
step costs 4 and nothing else changes but what the fetch does to the latch (R111, R135). -/
def Obligations.UndefinedOpcodeIsReported : Prop :=
  (∀ op : Byte, primary op = none ↔ op ∈ undefinedOpcodes) ∧
  (∀ (op : Byte) (s : State), op ∈ undefinedOpcodes →
    exec (.undefined op) s = .next { s with
      events := s.events ++ [.undefinedOpcode op (s.rf.pc - 1)], cycles := s.cycles + 4 }) ∧
  (∀ s : State, s.halted = false → s.seq = .fetchPrimary → s.bus.peek s.rf.pc ∈ undefinedOpcodes →
    step s = .next { s with
      rf := { s.rf with pc := s.rf.pc + 1 }, bus := s.bus.touch s.rf.pc
      events := s.events ++ [.undefinedOpcode (s.bus.peek s.rf.pc) s.rf.pc], cycles := s.cycles + 4 })

/-- A halted step changes nothing but the cycle counter, by 4, and reset clears halted (R137). -/
def Obligations.HaltedStepOnlyCountsCycles : Prop :=
  ∀ s : State,
    (s.halted = true → step s = .next { s with cycles := s.cycles + 4 }) ∧ (applyReset s).halted = false

/-- The 0xCB entry has length 1 and no cost of its own; it fetches one more byte, runs that byte's extended entry, which always
exists and is 2 bytes long, and the step ends in fetch-primary (R133, R134). -/
def Obligations.PrefixRunsExtendedEntry : Prop :=
  (∃ d, primary 0xCB#8 = some d ∧ d.length = 1 ∧ d.base = 0 ∧ d.form.instr = .prefixCb) ∧
  (∀ op2 : Byte, (extended op2).opcode = op2 ∧ (extended op2).length = 2) ∧
  (∀ s : State, ∃ t, exec .prefixCb s = .next t ∧ t.seq = .fetchPrimary ∧
    exec (extendedInstr (s.bus.peek s.rf.pc)) { s with
      rf := { s.rf with pc := s.rf.pc + 1 }, bus := s.bus.touch s.rf.pc, seq := .fetchPrimary } = .next t)

/-! 8-bit loads and stores (41_load8). -/

/-- LD r,r' (R150). -/
def Obligations.LoadRegisterFromRegister : Prop :=
  ∀ (dst src : Reg8) (s : State),
    encode (Family.ldRR dst src) = [BitVec.ofNat 8 (0x40 + 8 * dst.code + src.code)] ∧
    exec (Family.ldRR dst src) s = .next { s with rf := s.rf.set dst (s.rf.get src), cycles := s.cycles + 4 }

/-- LD r,d8 (R151). -/
def Obligations.LoadRegisterFromImmediate : Prop :=
  ∀ (dst : Reg8) (v : Byte) (s : State),
    encode (Family.ldRD8 dst v) = [BitVec.ofNat 8 (0x06 + 8 * dst.code), v] ∧
    exec (Family.ldRD8 dst v) s = .next { s with rf := s.rf.set dst v, cycles := s.cycles + 8 }

/-- LD r,(HL): the address is formed before the write, and the read may clear the latch (R152). -/
def Obligations.LoadRegisterFromMemoryAtHl : Prop :=
  ∀ (dst : Reg8) (s : State),
    encode (Family.ldRHl dst) = [BitVec.ofNat 8 (0x46 + 8 * dst.code)] ∧
    exec (Family.ldRHl dst) s = .next { s with
      rf := s.rf.set dst (s.bus.peek (s.rf.pair .hl)), bus := s.bus.touch (s.rf.pair .hl), cycles := s.cycles + 8 }

/-- LD (HL),r and LD (HL),d8 (R153, R154). -/
def Obligations.StoreAtHl : Prop :=
  (∀ (r : Reg8) (s : State),
    encode (Family.ldHlR r) = [BitVec.ofNat 8 (0x70 + r.code)] ∧
    exec (Family.ldHlR r) s = .next { writeByte (s.rf.pair .hl) (s.rf.get r) s with cycles := s.cycles + 8 }) ∧
  (∀ (v : Byte) (s : State),
    encode (.ldMemHlD8 v) = [0x36#8, v] ∧
    exec (.ldMemHlD8 v) s = .next { writeByte (s.rf.pair .hl) v s with cycles := s.cycles + 12 })

/-- LD A from memory at BC, DE, an address, and the high page (R155, R156, R159, R161, R163). -/
def Obligations.LoadAccumulatorFromMemory : Prop :=
  ∀ s : State,
    let loaded := fun (a : Word) (cost : Nat) => Host.Outcome.next (φ := Fault) (ρ := Refusal)
      { s with rf := { s.rf with a := s.bus.peek a }, bus := s.bus.touch a, cycles := s.cycles + cost }
    (encode .ldAMemBc = [0x0A#8] ∧ exec .ldAMemBc s = loaded (s.rf.pair .bc) 8) ∧
    (encode .ldAMemDe = [0x1A#8] ∧ exec .ldAMemDe s = loaded (s.rf.pair .de) 8) ∧
    (∀ a : Word, encode (.ldAMemA16 a) = [0xFA#8, BitVec.ofNat 8 a.toNat, BitVec.ofNat 8 (a.toNat / 256)] ∧
      exec (.ldAMemA16 a) s = loaded a 16) ∧
    (∀ o : Byte, encode (.ldhAMemA8 o) = [0xF0#8, o] ∧
      exec (.ldhAMemA8 o) s = loaded (BitVec.ofNat 16 (0xFF00 + o.toNat)) 12) ∧
    (encode .ldAMemC = [0xF2#8] ∧ exec .ldAMemC s = loaded (BitVec.ofNat 16 (0xFF00 + s.rf.c.toNat)) 8)

/-- LD memory from A at BC, DE, an address, and the high page (R157, R158, R160, R162, R164). -/
def Obligations.StoreAccumulatorToMemory : Prop :=
  ∀ s : State,
    let stored := fun (a : Word) (cost : Nat) => Host.Outcome.next (φ := Fault) (ρ := Refusal)
      { writeByte a s.rf.a s with cycles := s.cycles + cost }
    (encode .ldMemBcA = [0x02#8] ∧ exec .ldMemBcA s = stored (s.rf.pair .bc) 8) ∧
    (encode .ldMemDeA = [0x12#8] ∧ exec .ldMemDeA s = stored (s.rf.pair .de) 8) ∧
    (∀ a : Word, encode (.ldMemA16A a) = [0xEA#8, BitVec.ofNat 8 a.toNat, BitVec.ofNat 8 (a.toNat / 256)] ∧
      exec (.ldMemA16A a) s = stored a 16) ∧
    (∀ o : Byte, encode (.ldhMemA8A o) = [0xE0#8, o] ∧
      exec (.ldhMemA8A o) s = stored (BitVec.ofNat 16 (0xFF00 + o.toNat)) 12) ∧
    (encode .ldMemCA = [0xE2#8] ∧ exec .ldMemCA s = stored (BitVec.ofNat 16 (0xFF00 + s.rf.c.toNat)) 8)

/-- LD (HL+),A; LD (HL-),A; LD A,(HL+); LD A,(HL-): the access at HL, then HL one up or down with wrap (R165 to R168). -/
def Obligations.PostIncrementAndDecrementOfHl : Prop :=
  ∀ s : State,
    let hl := s.rf.pair .hl
    let up := (hl.toNat + 1) % 65536
    let down := (hl.toNat + 65535) % 65536
    (encode .ldMemHlIncA = [0x22#8] ∧ exec .ldMemHlIncA s = .next { writeByte hl s.rf.a s with
      rf := Spec.setPair .hl up s.rf, cycles := s.cycles + 8 }) ∧
    (encode .ldMemHlDecA = [0x32#8] ∧ exec .ldMemHlDecA s = .next { writeByte hl s.rf.a s with
      rf := Spec.setPair .hl down s.rf, cycles := s.cycles + 8 }) ∧
    (encode .ldAMemHlInc = [0x2A#8] ∧ exec .ldAMemHlInc s = .next { s with
      rf := { Spec.setPair .hl up s.rf with a := s.bus.peek hl }, bus := s.bus.touch hl, cycles := s.cycles + 8 }) ∧
    (encode .ldAMemHlDec = [0x3A#8] ∧ exec .ldAMemHlDec s = .next { s with
      rf := { Spec.setPair .hl down s.rf with a := s.bus.peek hl }, bus := s.bus.touch hl, cycles := s.cycles + 8 })

/-! 16-bit loads and the stack (42_load16_stack). -/

/-- LD rr,d16: byte 1 to the low register, byte 2 to the high register (R170). -/
def Obligations.LoadPairFromImmediate : Prop :=
  ∀ (p : Rp) (v : Word) (s : State),
    encode (Family.ldRpD16 p v) =
      [BitVec.ofNat 8 (0x01 + 16 * p.code), BitVec.ofNat 8 v.toNat, BitVec.ofNat 8 (v.toNat / 256)] ∧
    exec (Family.ldRpD16 p v) s = .next { s with rf := Spec.setRp p v.toNat s.rf, cycles := s.cycles + 12 }

/-- LD (a16),SP writes the low byte of SP at a16 and then the high byte at a16 + 1; LD SP,HL (R171, R172). -/
def Obligations.StackPointerMoves : Prop :=
  (∀ (a : Word) (s : State),
    encode (.ldMemA16Sp a) = [0x08#8, BitVec.ofNat 8 a.toNat, BitVec.ofNat 8 (a.toNat / 256)] ∧
    exec (.ldMemA16Sp a) s = .next { writeByte (BitVec.ofNat 16 (a.toNat + 1)) (BitVec.ofNat 8 (s.rf.sp.toNat / 256))
      (writeByte a (BitVec.ofNat 8 s.rf.sp.toNat) s) with cycles := s.cycles + 20 }) ∧
  (∀ s : State, encode .ldSpHl = [0xF9#8] ∧
    exec .ldSpHl s = .next { s with
      rf := { s.rf with sp := BitVec.ofNat 16 (s.rf.h.toNat * 256 + s.rf.l.toNat) }, cycles := s.cycles + 8 })

/-- LD HL,SP+e8 and ADD SP,e8: the sum is signed, the flags are those of the unsigned low-byte addition (R173, R203). -/
def Obligations.StackPointerPlusDisplacement : Prop :=
  ∀ (e : Byte) (s : State),
    (encode (.ldHlSpE8 e) = [0xF8#8, e] ∧ exec (.ldHlSpE8 e) s = .next { s with
      rf := { Spec.setPair .hl (Spec.spPlus s.rf.sp e).toNat s.rf with f := Spec.spPlusF s.rf.sp e }
      cycles := s.cycles + 12 }) ∧
    (encode (.addSpE8 e) = [0xE8#8, e] ∧ exec (.addSpE8 e) s = .next { s with
      rf := { s.rf with sp := Spec.spPlus s.rf.sp e, f := Spec.spPlusF s.rf.sp e }, cycles := s.cycles + 16 })

/-- PUSH rr: the pair is pushed, F with its low nibble 0 for AF (R174). -/
def Obligations.PushPair : Prop :=
  ∀ (p : Pair) (s : State),
    encode (Family.push p) = [BitVec.ofNat 8 (0xC5 + 16 * p.code)] ∧
    exec (Family.push p) s = .next { Spec.push (s.rf.pair p) s with cycles := s.cycles + 16 }

/-- POP rr and POP AF: the two bytes at SP, the low one first; POP AF discards F's low nibble (R175, R176). -/
def Obligations.PopPair : Prop :=
  ∀ (p : Pair) (s : State),
    encode (Family.pop p) = [BitVec.ofNat 8 (0xC1 + 16 * p.code)] ∧
    exec (Family.pop p) s = .next { Spec.afterPop s with
      rf := Spec.setPair p (Spec.popped s) (Spec.afterPop s).rf, cycles := s.cycles + 12 }

/-- A word pushed where both stack bytes are RAM is the word popped, and SP comes back (R177). -/
def Obligations.PopReturnsWhatWasPushed : Prop :=
  ∀ (v : Word) (s : State) (j k : Nat), Memory.wf s.bus.ram = true →
    ramKey (s.rf.sp - 2) = some j → ramKey (s.rf.sp - 1) = some k →
    (pop16 (push16 v s)).1 = v ∧ (pop16 (push16 v s)).2.rf = s.rf ∧
    (pop16 (push16 v s)).2.bus = (push16 v s).bus

/-! 8-bit arithmetic and logic (43_alu8). -/

/-- ADD A,src and ADC A,src, every source (R181, R182). -/
def Obligations.AddToAccumulator : Prop :=
  Spec.AluForms .add (fun v rf => Spec.add rf.a.toNat v.toNat 0 rf) ∧
  Spec.AluForms .adc (fun v rf => Spec.add rf.a.toNat v.toNat rf.f.cf.toNat rf)

/-- SUB src and SBC A,src, every source (R183, R184). -/
def Obligations.SubtractFromAccumulator : Prop :=
  Spec.AluForms .sub (fun v rf => Spec.sub rf.a.toNat v.toNat 0 rf) ∧
  Spec.AluForms .sbc (fun v rf => Spec.sub rf.a.toNat v.toNat rf.f.cf.toNat rf)

/-- AND, XOR and OR, every source (R185, R186, R187). -/
def Obligations.LogicOnAccumulator : Prop :=
  Spec.AluForms .and (fun v rf => Spec.logic (rf.a.toNat &&& v.toNat) true rf) ∧
  Spec.AluForms .xor (fun v rf => Spec.logic (rf.a.toNat ^^^ v.toNat) false rf) ∧
  Spec.AluForms .or (fun v rf => Spec.logic (rf.a.toNat ||| v.toNat) false rf)

/-- CP src, every source: the flags of SUB, A not written (R188). -/
def Obligations.CompareWithAccumulator : Prop :=
  Spec.AluForms .cp (fun v rf => { rf with f := Spec.subF rf.a.toNat v.toNat 0 })

/-- INC r and INC (HL): Z, N = 0, Hf; Cf unchanged; the (HL) form reads and writes the same address (R190, R192). -/
def Obligations.IncrementEightBit : Prop :=
  ∀ (o : R8) (s : State),
    let v := (readR8 o s).1.toNat
    let t := writeR8 o (BitVec.ofNat 8 (v + 1)) (readR8 o s).2
    encode (Family.inc o) = [BitVec.ofNat 8 (0x04 + 8 * o.code)] ∧
    exec (Family.inc o) s = .next { t with
      rf := { t.rf with f := { z := (v + 1) % 256 = 0, n := false, hf := v &&& 0x0F = 0x0F, cf := s.rf.f.cf } }
      cycles := s.cycles + if o = .hl then 12 else 4 }

/-- DEC r and DEC (HL): Z, N = 1, Hf; Cf unchanged (R191, R193). -/
def Obligations.DecrementEightBit : Prop :=
  ∀ (o : R8) (s : State),
    let v := (readR8 o s).1.toNat
    let t := writeR8 o (BitVec.ofInt 8 ((v : Int) - 1)) (readR8 o s).2
    encode (Family.dec o) = [BitVec.ofNat 8 (0x05 + 8 * o.code)] ∧
    exec (Family.dec o) s = .next { t with
      rf := { t.rf with f := { z := ((v : Int) - 1) % 256 = 0, n := true, hf := v &&& 0x0F = 0x00, cf := s.rf.f.cf } }
      cycles := s.cycles + if o = .hl then 12 else 4 }

/-- DAA (R194). -/
def Obligations.DecimalAdjust : Prop :=
  ∀ s : State, encode .daa = [0x27#8] ∧
    exec .daa s = .next { s with rf := Spec.daa s.rf, cycles := s.cycles + 4 }

/-- DAA after ADD or SUB of two-digit decimal values leaves the decimal sum or difference mod 100 in A, and the decimal carry
or borrow in Cf (R181, R183, R194). -/
def Obligations.DecimalAdjustGivesDecimalSums : Prop :=
  ∀ (m n : Nat) (s : State), m < 100 → n < 100 → s.rf.a = Spec.bcd m →
    (∃ t, execAll [.addAD8 (Spec.bcd n), .daa] s = .next t ∧
      t.rf.a = Spec.bcd ((m + n) % 100) ∧ t.rf.f.cf = decide (100 ≤ m + n)) ∧
    (∃ t, execAll [.subD8 (Spec.bcd n), .daa] s = .next t ∧
      t.rf.a = Spec.bcd ((m + 100 - n) % 100) ∧ t.rf.f.cf = decide (m < n))

/-- CPL, SCF and CCF (R195, R196, R197). -/
def Obligations.ComplementAndCarryFlagInstructions : Prop :=
  ∀ s : State,
    (encode .cpl = [0x2F#8] ∧ exec .cpl s = .next { s with
      rf := { s.rf with a := BitVec.ofNat 8 (255 - s.rf.a.toNat), f := { s.rf.f with n := true, hf := true } }
      cycles := s.cycles + 4 }) ∧
    (encode .scf = [0x37#8] ∧ exec .scf s = .next { s with
      rf := { s.rf with f := { s.rf.f with n := false, hf := false, cf := true } }, cycles := s.cycles + 4 }) ∧
    (encode .ccf = [0x3F#8] ∧ exec .ccf s = .next { s with
      rf := { s.rf with f := { s.rf.f with n := false, hf := false, cf := !s.rf.f.cf } }, cycles := s.cycles + 4 })

/-! 16-bit arithmetic (44_alu16). -/

/-- INC rr, DEC rr and ADD HL,rr: wrap mod 2^16; INC and DEC write no flag; ADD HL leaves Z, with Hf from bit 11 and Cf from
bit 15 (R200, R201, R202). -/
def Obligations.SixteenBitArithmetic : Prop :=
  ∀ (p : Rp) (s : State),
    (encode (Family.incRp p) = [BitVec.ofNat 8 (0x03 + 16 * p.code)] ∧
      exec (Family.incRp p) s = .next { s with
        rf := Spec.setRp p ((Spec.rp p s.rf + 1) % 65536) s.rf, cycles := s.cycles + 8 }) ∧
    (encode (Family.decRp p) = [BitVec.ofNat 8 (0x0B + 16 * p.code)] ∧
      exec (Family.decRp p) s = .next { s with
        rf := Spec.setRp p ((Spec.rp p s.rf + 65535) % 65536) s.rf, cycles := s.cycles + 8 }) ∧
    (encode (Family.addHl p) = [BitVec.ofNat 8 (0x09 + 16 * p.code)] ∧
      exec (Family.addHl p) s = .next { s with
        rf := { Spec.setPair .hl ((Spec.rp .hl s.rf + Spec.rp p s.rf) % 65536) s.rf with
          f := { z := s.rf.f.z, n := false
                 hf := (Spec.rp .hl s.rf &&& 0x0FFF) + (Spec.rp p s.rf &&& 0x0FFF) > 0x0FFF
                 cf := Spec.rp .hl s.rf + Spec.rp p s.rf > 0xFFFF } }
        cycles := s.cycles + 8 })

/-! Rotates, shifts and bit operations (45_rotate_shift_bit). -/

/-- RLCA, RRCA, RLA, RRA: Z = 0 always (R213 to R216). -/
def Obligations.AccumulatorRotates : Prop :=
  Spec.RotateAForm .rlca 0x07#8 .rlc ∧ Spec.RotateAForm .rrca 0x0F#8 .rrc ∧
  Spec.RotateAForm .rla 0x17#8 .rl ∧ Spec.RotateAForm .rra 0x1F#8 .rr

/-- RLC, RRC, RL, RR on every r8 operand (R217 to R220). -/
def Obligations.ExtendedRotates : Prop :=
  Spec.ShiftForms .rlc ∧ Spec.ShiftForms .rrc ∧ Spec.ShiftForms .rl ∧ Spec.ShiftForms .rr

/-- SLA, SRA (shifting in 0), SWAP, SRL on every r8 operand (R221 to R224). -/
def Obligations.ExtendedShiftsAndSwap : Prop :=
  Spec.ShiftForms .sla ∧ Spec.ShiftForms .sra ∧ Spec.ShiftForms .swap ∧ Spec.ShiftForms .srl

/-- BIT b,r8: Z is the complement of the bit, N and Hf cleared, Cf unchanged, the operand not written (R225). -/
def Obligations.BitTest : Prop :=
  ∀ (b : Fin 8) (o : R8) (s : State),
    encode (Family.bit b o) = [0xCB#8, BitVec.ofNat 8 (0x40 + 8 * b.val + o.code)] ∧
    exec (Family.bit b o) s = .next { (readR8 o s).2 with
      rf := { s.rf with f := { z := (readR8 o s).1.toNat / 2 ^ b.val % 2 = 0, n := false, hf := false, cf := s.rf.f.cf } }
      cycles := s.cycles + if o = .hl then 12 else 8 }

/-- RES b,r8 and SET b,r8: bit b alone is cleared or set, no flag is written (R226, R227). -/
def Obligations.BitResetAndSet : Prop :=
  ∀ (b : Fin 8) (o : R8) (s : State),
    (encode (Family.res b o) = [0xCB#8, BitVec.ofNat 8 (0x80 + 8 * b.val + o.code)] ∧
      ∃ r : Byte, (∀ k < 8, r.getLsbD k = if k = b.val then false else (readR8 o s).1.getLsbD k) ∧
        exec (Family.res b o) s = .next { writeR8 o r (readR8 o s).2 with
          cycles := s.cycles + if o = .hl then 16 else 8 }) ∧
    (encode (Family.set b o) = [0xCB#8, BitVec.ofNat 8 (0xC0 + 8 * b.val + o.code)] ∧
      ∃ r : Byte, (∀ k < 8, r.getLsbD k = if k = b.val then true else (readR8 o s).1.getLsbD k) ∧
        exec (Family.set b o) s = .next { writeR8 o r (readR8 o s).2 with
          cycles := s.cycles + if o = .hl then 16 else 8 })

/-- Eight SLA of a register leave 0 and the start value's bit 0 in Cf (R221). -/
def Obligations.EightShiftsLeftClearARegister : Prop :=
  ∀ (r : Reg8) (s : State), ∃ t,
    execAll (List.replicate 8 (Family.shift .sla r.toR8)) s = .next t ∧
    t = { s with
      rf := { s.rf.set r 0x00#8 with f := { z := true, n := false, hf := false, cf := (s.rf.get r).getLsbD 0 } }
      cycles := s.cycles + 64 }

/-! Control transfer (46_control). -/

/-- JP a16, JP (HL) and JR e8; JR is relative to the address after the operand, mod 2^16 (R240, R242, R243). -/
def Obligations.UnconditionalJumps : Prop :=
  ∀ s : State,
    (∀ a : Word, encode (.jp a) = [0xC3#8, BitVec.ofNat 8 a.toNat, BitVec.ofNat 8 (a.toNat / 256)] ∧
      exec (.jp a) s = .next { s with rf := { s.rf with pc := a }, cycles := s.cycles + 16 }) ∧
    (encode .jpHl = [0xE9#8] ∧ exec .jpHl s = .next { s with
      rf := { s.rf with pc := BitVec.ofNat 16 (s.rf.h.toNat * 256 + s.rf.l.toNat) }, cycles := s.cycles + 4 }) ∧
    (∀ e : Byte, encode (.jr e) = [0x18#8, e] ∧ exec (.jr e) s = .next { s with
      rf := { s.rf with pc := BitVec.ofInt 16 ((s.rf.pc.toNat : Int) + e.toInt) }, cycles := s.cycles + 12 })

/-- JP cc,a16 and JR cc,e8: taken where the condition holds, 4 cycles dearer (R241, R244). -/
def Obligations.ConditionalJumps : Prop :=
  ∀ (cc : Cond) (s : State),
    (∀ a : Word, encode (Family.jpCc cc a) =
        [BitVec.ofNat 8 (0xC2 + 8 * cc.code), BitVec.ofNat 8 a.toNat, BitVec.ofNat 8 (a.toNat / 256)] ∧
      exec (Family.jpCc cc a) s = .next (if Spec.cond cc s.rf.f = true
        then { s with rf := { s.rf with pc := a }, cycles := s.cycles + 16 }
        else { s with cycles := s.cycles + 12 })) ∧
    (∀ e : Byte, encode (Family.jrCc cc e) = [BitVec.ofNat 8 (0x20 + 8 * cc.code), e] ∧
      exec (Family.jrCc cc e) s = .next (if Spec.cond cc s.rf.f = true
        then { s with rf := { s.rf with pc := BitVec.ofInt 16 ((s.rf.pc.toNat : Int) + e.toInt) }, cycles := s.cycles + 12 }
        else { s with cycles := s.cycles + 8 }))

/-- CALL a16 and RST t: PC, the address after the instruction, is pushed (R245, R249). -/
def Obligations.CallsAndRestarts : Prop :=
  ∀ s : State,
    let called := fun (a : Word) (cost : Nat) => Host.Outcome.next (φ := Fault) (ρ := Refusal)
      { Spec.push s.rf.pc s with
        rf := { s.rf with sp := BitVec.ofInt 16 ((s.rf.sp.toNat : Int) - 2), pc := a }, cycles := s.cycles + cost }
    (∀ a : Word, encode (.call a) = [0xCD#8, BitVec.ofNat 8 a.toNat, BitVec.ofNat 8 (a.toNat / 256)] ∧
      exec (.call a) s = called a 24) ∧
    (∀ t : Fin 8, encode (Family.rst t) = [BitVec.ofNat 8 (0xC7 + 8 * t.val)] ∧
      exec (Family.rst t) s = called (BitVec.ofNat 16 (8 * t.val)) 16)

/-- CALL cc,a16: not taken, nothing is pushed; taken, 12 cycles dearer (R246). -/
def Obligations.ConditionalCalls : Prop :=
  ∀ (cc : Cond) (a : Word) (s : State),
    encode (Family.callCc cc a) =
      [BitVec.ofNat 8 (0xC4 + 8 * cc.code), BitVec.ofNat 8 a.toNat, BitVec.ofNat 8 (a.toNat / 256)] ∧
    exec (Family.callCc cc a) s = .next (if Spec.cond cc s.rf.f = true
      then { Spec.push s.rf.pc s with
        rf := { s.rf with sp := BitVec.ofInt 16 ((s.rf.sp.toNat : Int) - 2), pc := a }, cycles := s.cycles + 24 }
      else { s with cycles := s.cycles + 12 })

/-- RET, and RETI, which also writes IME (R247, R248). -/
def Obligations.Returns : Prop :=
  ∀ s : State,
    (encode .ret = [0xC9#8] ∧ exec .ret s = .next { Spec.afterPop s with
      rf := { (Spec.afterPop s).rf with pc := BitVec.ofNat 16 (Spec.popped s) }, cycles := s.cycles + 16 }) ∧
    (encode .reti = [0xD9#8] ∧ exec .reti s = .next { Spec.afterPop s with
      rf := { (Spec.afterPop s).rf with pc := BitVec.ofNat 16 (Spec.popped s) }, ime := true, cycles := s.cycles + 16 })

/-- RET cc: not taken, SP and memory are untouched; taken, 12 cycles dearer (R250). -/
def Obligations.ConditionalReturns : Prop :=
  ∀ (cc : Cond) (s : State),
    encode (Family.retCc cc) = [BitVec.ofNat 8 (0xC0 + 8 * cc.code)] ∧
    exec (Family.retCc cc) s = .next (if Spec.cond cc s.rf.f = true
      then { Spec.afterPop s with
        rf := { (Spec.afterPop s).rf with pc := BitVec.ofNat 16 (Spec.popped s) }, cycles := s.cycles + 20 }
      else { s with cycles := s.cycles + 8 })

/-! System (47_system). -/

/-- NOP, HALT, STOP with any second byte, DI and EI (R260 to R264). -/
def Obligations.SystemInstructions : Prop :=
  ∀ s : State,
    (encode .nop = [0x00#8] ∧ exec .nop s = .next { s with cycles := s.cycles + 4 }) ∧
    (encode .halt = [0x76#8] ∧ exec .halt s = .next { s with halted := true, cycles := s.cycles + 4 }) ∧
    (∀ x : Byte, encode (.stop x) = [0x10#8, x] ∧
      exec (.stop x) s = .next { s with halted := true, cycles := s.cycles + 4 }) ∧
    (encode .di = [0xF3#8] ∧ exec .di s = .next { s with ime := false, cycles := s.cycles + 4 }) ∧
    (encode .ei = [0xFB#8] ∧ exec .ei s = .next { s with ime := true, cycles := s.cycles + 4 })

/-! The whole machine. -/

/-- Every step keeps the invariant: canonical RAM, canonical RAM_INIT, and fetch-primary at the step boundary (R37). -/
def Obligations.StepKeepsTheInvariant : Prop :=
  ∀ s t : State, s.Inv → step s = .next t → t.Inv

/-- The invariant holds after reset, and after the reset input in any state with a canonical RAM_INIT. -/
def Obligations.ResetMeetsTheInvariant : Prop :=
  State.reset.Inv ∧ ∀ s : State, Memory.wf s.bus.cfg.ramInit = true → (applyReset s).Inv

/-- The address map: what a byte read returns and does to the latch, and what a byte write does (R62 to R69, R71 to R74). -/
def Obligations.AddressMap : Prop :=
  ∀ (a : Word) (v : Byte) (s : State),
    (readByte a s =
      (if a.toNat < 0x0100 ∧ s.bus.biosOverlay = true then s.bus.cfg.bios.get (Fin.ofNat 256 a.toNat)
       else if a.toNat < 0x8000 then s.bus.cfg.rom.getD a.toNat s.bus.cfg.romPad
       else if a.toNat < 0xA000 then 0x00#8
       else if a.toNat < 0xE000 then Memory.read s.bus.ram a.toNat
       else if a.toNat < 0xFE00 then Memory.read s.bus.ram (a.toNat - 0x2000)
       else if a.toNat < 0xFF80 then 0x00#8
       else Memory.read s.bus.ram a.toNat,
       { s with bus := { s.bus with
          biosOverlay := if 0x0100 ≤ a.toNat ∧ a.toNat ≤ 0x7FFF then false else s.bus.biosOverlay } })) ∧
    (writeByte a v s =
      if a.toNat < 0x0100 ∧ s.bus.biosOverlay = true then { s with events := s.events ++ [.romWriteRejected a v] }
      else if a.toNat < 0xA000 then s
      else if a.toNat < 0xE000 then { s with bus := { s.bus with ram := Memory.write s.bus.ram a.toNat v } }
      else if a.toNat < 0xFE00 then { s with bus := { s.bus with ram := Memory.write s.bus.ram (a.toNat - 0x2000) v } }
      else if a.toNat < 0xFF80 then s
      else { s with bus := { s.bus with ram := Memory.write s.bus.ram a.toNat v } })

/-- A byte written to RAM is read back at every address that reaches its store byte, the working-RAM mirror's among them; every
other address reads as before, and a write changes nothing else but an event (R63, R70, R83). -/
def Obligations.ReadAfterWrite : Prop :=
  ∀ (a x : Word) (v : Byte) (s : State), Memory.wf s.bus.ram = true →
    (∀ k : Nat, ramKey a = some k → ramKey x = some k → (writeByte a v s).bus.peek x = v) ∧
    (ramKey x = none ∨ ramKey x ≠ ramKey a → (writeByte a v s).bus.peek x = s.bus.peek x) ∧
    (∀ k : Nat, k ≤ 0x1DFF → ramKey (BitVec.ofNat 16 (0xE000 + k)) = ramKey (BitVec.ofNat 16 (0xC000 + k))) ∧
    (writeByte a v s).rf = s.rf ∧ (writeByte a v s).ime = s.ime ∧ (writeByte a v s).halted = s.halted ∧
    (writeByte a v s).seq = s.seq ∧ (writeByte a v s).cycles = s.cycles ∧
    (writeByte a v s).bus.cfg = s.bus.cfg ∧ (writeByte a v s).bus.biosOverlay = s.bus.biosOverlay

/-- Word accesses are two byte accesses, low byte first, the high byte at the next address mod 2^16 (R75, R76). -/
def Obligations.WordAccesses : Prop :=
  ∀ (a v : Word) (s : State),
    (let lo := readByte a s
     let hi := readByte (BitVec.ofNat 16 (a.toNat + 1)) lo.2
     (readWord a s).1.toNat = hi.1.toNat * 256 + lo.1.toNat ∧ (readWord a s).2 = hi.2) ∧
    writeWord a v s = writeByte (BitVec.ofNat 16 (a.toNat + 1)) (BitVec.ofNat 8 (v.toNat / 256))
      (writeByte a (BitVec.ofNat 8 v.toNat) s)

/-- No step changes the configured images, sets the latch, clears halted, takes back an event, or lowers the cycle counter
(R36, R38, R40, R54, R66). -/
def Obligations.WhatNoStepUndoes : Prop :=
  ∀ s t : State, step s = .next t →
    t.bus.cfg = s.bus.cfg ∧ (t.bus.biosOverlay = true → s.bus.biosOverlay = true) ∧
    (s.halted = true → t.halted = true) ∧ s.events <+: t.events ∧ s.cycles ≤ t.cycles

/-- Every instruction and every step answers a next state: nothing faults and nothing is refused (R270, R272). -/
def Obligations.NothingStops : Prop :=
  (∀ (i : Instr) (s : State), ∃ t, exec i s = .next t) ∧ ∀ s : State, ∃ t, step s = .next t

/-- Only HALT and STOP change halted, and only DI, EI and RETI change IME (R35, R36). -/
def Obligations.OnlyTheirInstructionsWriteHaltedAndIme : Prop :=
  ∀ (i : Instr) (s t : State), exec i s = .next t →
    (t.halted ≠ s.halted → i = .halt ∨ ∃ x, i = .stop x) ∧
    (t.ime ≠ s.ime → i = .di ∨ i = .ei ∨ i = .reti)

/-- Every well-formed instruction charges what its table entry lists: the base cost, and the extra cost where its condition holds. The 0xCB
entry, which is no instruction, is left out; PrefixRunsExtendedEntry states what it charges (R138, R139, R297). -/
def Obligations.CostsAreAsListed : Prop :=
  ∀ (i : Instr) (s t : State), i.wellFormed = true → i ≠ .prefixCb → exec i s = .next t →
    t.cycles = s.cycles + listedCost i s.rf.f

/-- Every well-formed instruction clears, sets or leaves each flag as its table entry says; the 0xCB entry, which is no instruction, is left
out (R26, R109). -/
def Obligations.FlagsAreAsListed : Prop :=
  ∀ (i : Instr) (s t : State), i.wellFormed = true → i ≠ .prefixCb → exec i s = .next t → flagsObey i s.rf.f t.rf.f

/-- A step whose instruction does not transfer control ends with PC = start + length mod 2^16 (R140). -/
def Obligations.ProgramCounterAdvancesByLength : Prop :=
  ∀ (s t : State) (i : Instr) (rest : List Byte), s.halted = false → s.seq = .fetchPrimary →
    decode (fetchBytes 3 s).1 = .ok (i, rest) → i.transfersControl = false → step s = .next t →
    t.rf.pc = BitVec.ofNat 16 (s.rf.pc.toNat + i.length)

/-- An instruction that is no store changes no RAM byte and reports no rejected write (R271). -/
def Obligations.OnlyStoresWriteMemory : Prop :=
  ∀ (i : Instr) (s t : State), i.storesMemory = false → exec i s = .next t →
    t.bus.ram = s.bus.ram ∧ ∀ (a : Word) (v : Byte), Event.romWriteRejected a v ∈ t.events → Event.romWriteRejected a v ∈ s.events

/-- The reset input gives every element its reset value, keeps the configuration and emits no event (R34, R290). -/
def Obligations.ResetValues : Prop :=
  ∀ s : State,
    (applyReset s).rf =
      { a := 0x00#8, b := 0x00#8, c := 0x00#8, d := 0x00#8, e := 0x00#8, h := 0x00#8, l := 0x00#8
        f := { z := false, n := false, hf := false, cf := false }, pc := 0x0000#16, sp := 0x0000#16 } ∧
    (applyReset s).bus = { cfg := s.bus.cfg, ram := s.bus.cfg.ramInit, biosOverlay := true } ∧
    (applyReset s).ime = false ∧ (applyReset s).halted = false ∧ (applyReset s).seq = .fetchPrimary ∧
    (applyReset s).cycles = 0 ∧ (applyReset s).events <+: s.events

/-- Power-on: a BIOS image of any length but 256 is refused; one of 256 bytes gives a state with reset's values, the images as
given, the RAM as given where its cells are canonical, and the invariant (R52, R291). The refusal's form, RAM_INIT as cells over
0x00 and the empty event output are the model's (log entries 2, 4 and 10). -/
def Obligations.PowerOnWithAConfiguration : Prop :=
  ∀ (bios rom : List Byte) (pad : Byte) (ram : List Host.Cell),
    (bios.length ≠ 256 → powerOn bios rom pad ram = .refused (.biosLength bios.length)) ∧
    (bios.length = 256 → ∃ s, powerOn bios rom pad ram = .next s ∧ s.bus.cfg.bios.toList = bios ∧
      s.bus.cfg.rom = rom ∧ s.bus.cfg.romPad = pad ∧ s = applyReset s ∧ s.events = [] ∧
      (Memory.wf ram = true → s.bus.ram = ram) ∧ s.Inv)

/-- The register file's own operations: for an index 0 to 7 the named bit alone is set, cleared or tested, nibbles are exchanged
and shifts fill with 0; for any other index nothing but the report changes; inc and dec wrap; no flag is written (R22, R30, R31).
That test answers none for an index outside 0 to 7 is the model's choice (log entry 13); that the bit operations are those of A to
L, and that no instruction calls them, is read from the rules (log entry 9). -/
def Obligations.RegisterFileOperations : Prop :=
  ∀ (r : Reg8) (s : State),
    (∀ b : Int, b < 0 ∨ 7 < b →
      regSetBit r b s = { s with events := s.events ++ [.invalidBitIndex r b] } ∧
      regResetBit r b s = { s with events := s.events ++ [.invalidBitIndex r b] } ∧
      regTestBit r b s = (none, { s with events := s.events ++ [.invalidBitIndex r b] })) ∧
    (∀ b : Fin 8,
      (∃ v : Byte, (∀ k < 8, v.getLsbD k = if k = b.val then true else (s.rf.get r).getLsbD k) ∧
        regSetBit r b.val s = { s with rf := s.rf.set r v }) ∧
      (∃ v : Byte, (∀ k < 8, v.getLsbD k = if k = b.val then false else (s.rf.get r).getLsbD k) ∧
        regResetBit r b.val s = { s with rf := s.rf.set r v }) ∧
      regTestBit r b.val s = (some ((s.rf.get r).getLsbD b.val), s)) ∧
    (let v := (s.rf.get r).toNat
     regSwapNibbles r s = { s with rf := s.rf.set r (BitVec.ofNat 8 (v % 16 * 16 + v / 16)) } ∧
     regShiftLeft r s = { s with rf := s.rf.set r (BitVec.ofNat 8 (v * 2)) } ∧
     regShiftRightLogical r s = { s with rf := s.rf.set r (BitVec.ofNat 8 (v / 2)) } ∧
     regShiftRightArithmetic r s = { s with rf := s.rf.set r (BitVec.ofNat 8 (v / 2)) } ∧
     incReg r s = { s with rf := s.rf.set r (BitVec.ofNat 8 (v + 1)) } ∧
     decReg r s = { s with rf := s.rf.set r (BitVec.ofNat 8 (v + 255)) }) ∧
    incPc s = { s with rf := { s.rf with pc := BitVec.ofNat 16 (s.rf.pc.toNat + 1) } } ∧
    decPc s = { s with rf := { s.rf with pc := BitVec.ofNat 16 (s.rf.pc.toNat + 65535) } } ∧
    incSp s = { s with rf := { s.rf with sp := BitVec.ofNat 16 (s.rf.sp.toNat + 1) } } ∧
    decSp s = { s with rf := { s.rf with sp := BitVec.ofNat 16 (s.rf.sp.toNat + 65535) } }

/-- The pair views: high register times 256 plus low register or F; a pair write writes the two halves, F's low nibble discarded,
and reads back, for AF with that nibble 0 (R23, R25, R28, R29). -/
def Obligations.PairViews : Prop :=
  ∀ (p : Pair) (v : Word) (rf : RegFile),
    (rf.pair .af).toNat = rf.a.toNat * 256 + (128 * rf.f.z.toNat + 64 * rf.f.n.toNat + 32 * rf.f.hf.toNat + 16 * rf.f.cf.toNat) ∧
    (rf.pair .bc).toNat = rf.b.toNat * 256 + rf.c.toNat ∧ (rf.pair .de).toNat = rf.d.toNat * 256 + rf.e.toNat ∧
    (rf.pair .hl).toNat = rf.h.toNat * 256 + rf.l.toNat ∧
    rf.setPair p v = Spec.setPair p v.toNat rf ∧
    ((rf.setPair p v).pair p).toNat = if p = .af then v.toNat - v.toNat % 16 else v.toNat

/-- The r8 operand by its code: a register, or the byte on the bus at HL, with the bus's effects; and the seven registers are
seven fields, each read and written alone (R20; R104, R144). -/
def Obligations.OperandR8 : Prop :=
  [R8.b, R8.c, R8.d, R8.e, R8.h, R8.l, R8.hl, R8.a].map R8.code = [0, 1, 2, 3, 4, 5, 6, 7] ∧
  (∀ (v : Byte) (rf : RegFile),
    (rf.get .a = rf.a ∧ rf.set .a v = { rf with a := v }) ∧ (rf.get .b = rf.b ∧ rf.set .b v = { rf with b := v }) ∧
    (rf.get .c = rf.c ∧ rf.set .c v = { rf with c := v }) ∧ (rf.get .d = rf.d ∧ rf.set .d v = { rf with d := v }) ∧
    (rf.get .e = rf.e ∧ rf.set .e v = { rf with e := v }) ∧ (rf.get .h = rf.h ∧ rf.set .h v = { rf with h := v }) ∧
    (rf.get .l = rf.l ∧ rf.set .l v = { rf with l := v })) ∧
  ∀ (o : R8) (v : Byte) (s : State),
    (o = .hl → readR8 o s = readByte (s.rf.pair .hl) s ∧ writeR8 o v s = writeByte (s.rf.pair .hl) v s) ∧
    (∀ r : Reg8, o.code = r.code →
      readR8 o s = (s.rf.get r, s) ∧ writeR8 o v s = { s with rf := s.rf.set r v })
end

