-- ==== Sys2Proof/Laws/Memory.lean ====
section
/-! SUPPORT. The canonical memory: read after write, the canonical form is kept, and equal reads are equal memories. -/
namespace Sys2Proof.Machine

@[simp] theorem memory_read_put_same (k : Nat) (v : Byte) (m : Memory) (h : ∀ c ∈ m, k < c.1) :
    Memory.read (Memory.put k v m) k = v := by
  unfold Memory.put
  split
  · subst v
    induction m with
    | nil => rfl
    | cons c m ih =>
      obtain ⟨j, w⟩ := c
      have := h (j, w) (by simp)
      simp only [Memory.read]
      rw [if_neg (by simp at this; omega)]
      exact ih fun c hc => h c (by simp [hc])
  · simp [Memory.read]

@[simp] theorem memory_read_put_other {j k : Nat} (v : Byte) (m : Memory) (h : j ≠ k) :
    Memory.read (Memory.put k v m) j = Memory.read m j := by
  unfold Memory.put
  split
  · rfl
  · simp [Memory.read, Ne.symm h]

/-- A cell list in canonical form, taken apart. -/
theorem memory_wf_cons (k : Nat) (v : Byte) (m : Memory) :
    Memory.wf ((k, v) :: m) = true ↔
      isRamKey k = true ∧ v ≠ unlistedByte ∧ (∀ c ∈ m, k < c.1) ∧ Memory.wf m = true := by
  simp [Memory.wf, and_assoc]

/-- Below every key of a memory, the unlisted byte is read. -/
theorem memory_read_below (m : Memory) (k : Nat) (h : ∀ c ∈ m, k < c.1) : Memory.read m k = unlistedByte := by
  induction m with
  | nil => rfl
  | cons c m ih =>
    obtain ⟨j, w⟩ := c
    have := h (j, w) (by simp)
    simp only [Memory.read]
    rw [if_neg (by simp at this; omega)]
    exact ih fun c hc => h c (by simp [hc])

/-- The byte written is the byte read (R83). -/
theorem memory_read_write_same (m : Memory) (k : Nat) (v : Byte) (h : Memory.wf m = true) :
    Memory.read (Memory.write m k v) k = v := by
  induction m with
  | nil => exact memory_read_put_same k v [] (by simp)
  | cons c m ih =>
    obtain ⟨j, w⟩ := c
    obtain ⟨-, -, hlt, hm⟩ := (memory_wf_cons j w m).1 h
    simp only [Memory.write]
    split
    · next hk =>
      exact memory_read_put_same k v _ (by simpa using ⟨hk, fun a b hc => Nat.lt_trans hk (hlt (a, b) hc)⟩)
    · split
      · next hk => subst hk; exact memory_read_put_same k v _ hlt
      · next hk => simp only [Memory.read]; rw [if_neg (Ne.symm hk)]; exact ih hm

/-- A write leaves every other key (R83). -/
theorem memory_read_write_other (m : Memory) {j k : Nat} (v : Byte) (h : j ≠ k) :
    Memory.read (Memory.write m k v) j = Memory.read m j := by
  induction m with
  | nil => exact memory_read_put_other v [] h
  | cons c m ih =>
    obtain ⟨i, w⟩ := c
    simp only [Memory.write]
    split
    · exact memory_read_put_other v _ h
    · split
      · next hk => subst hk; simp [Memory.read, Ne.symm h, memory_read_put_other v m h]
      · simp only [Memory.read, ih]

theorem memory_put_keys {k : Nat} {v : Byte} {m : Memory} {c : Host.Cell} (h : c ∈ Memory.put k v m) :
    c = (k, v) ∨ c ∈ m := by
  unfold Memory.put at h
  split at h
  · exact .inr h
  · simpa using h

theorem memory_write_keys {m : Memory} {k : Nat} {v : Byte} {c : Host.Cell} (h : c ∈ Memory.write m k v) :
    c = (k, v) ∨ c ∈ m := by
  induction m with
  | nil => exact memory_put_keys h
  | cons d m ih =>
    obtain ⟨j, w⟩ := d
    simp only [Memory.write] at h
    split at h
    · exact memory_put_keys h
    · split at h
      · exact (memory_put_keys h).imp_right fun h => by simp [h]
      · rcases List.mem_cons.1 h with h | h
        · exact .inr (by simp [h])
        · exact (ih h).imp_right fun h => by simp [h]

theorem memory_put_wf {k : Nat} {v : Byte} {m : Memory} (hk : isRamKey k = true) (hlt : ∀ c ∈ m, k < c.1)
    (hm : Memory.wf m = true) : Memory.wf (Memory.put k v m) = true := by
  unfold Memory.put
  split
  · exact hm
  · next hv => exact (memory_wf_cons k v m).2 ⟨hk, hv, hlt, hm⟩

/-- A write of a RAM byte keeps the canonical form. -/
theorem memory_write_wf {m : Memory} {k : Nat} (v : Byte) (hk : isRamKey k = true) (h : Memory.wf m = true) :
    Memory.wf (Memory.write m k v) = true := by
  induction m with
  | nil => exact memory_put_wf hk (by simp) rfl
  | cons c m ih =>
    obtain ⟨j, w⟩ := c
    obtain ⟨hj, hw, hlt, hm⟩ := (memory_wf_cons j w m).1 h
    simp only [Memory.write]
    split
    · next hkj =>
      exact memory_put_wf hk (by simpa using ⟨hkj, fun a b hc => Nat.lt_trans hkj (hlt (a, b) hc)⟩) h
    · split
      · next hkj => subst hkj; exact memory_put_wf hk hlt hm
      · next h1 h2 =>
        refine (memory_wf_cons j w _).2 ⟨hj, hw, fun c hc => ?_, ih hm⟩
        rcases memory_write_keys hc with rfl | hc
        · show j < k
          omega
        · exact hlt c hc

/-- A memory made of cells is canonical. -/
theorem memory_ofCells_wf (cells : List Host.Cell) : Memory.wf (Memory.ofCells cells) = true := by
  unfold Memory.ofCells
  suffices h : ∀ m : Memory, Memory.wf m = true →
      Memory.wf (cells.foldl (fun m c => if isRamKey c.1 then Memory.write m c.1 c.2 else m) m) = true from h [] rfl
  induction cells with
  | nil => exact fun m h => h
  | cons c cells ih =>
    intro m h
    refine ih _ ?_
    dsimp only
    split
    · next hk => exact memory_write_wf c.2 hk h
    · exact h

/-- A write above every key appends its cell. -/
theorem memory_write_above {m : Memory} {k : Nat} {v : Byte} (hv : v ≠ unlistedByte) (h : ∀ c ∈ m, c.1 < k) :
    Memory.write m k v = m ++ [(k, v)] := by
  induction m with
  | nil => simp [Memory.write, Memory.put, hv]
  | cons c m ih =>
    obtain ⟨j, w⟩ := c
    have := h (j, w) (by simp)
    simp only at this
    simp only [Memory.write]
    rw [if_neg (by omega), if_neg (by omega), ih fun c hc => h c (by simp [hc])]
    rfl

/-- Cells that are canonical are the memory made of them. -/
theorem memory_ofCells_of_wf {cells : List Host.Cell} (h : Memory.wf cells = true) : Memory.ofCells cells = cells := by
  unfold Memory.ofCells
  suffices hs : ∀ m : Memory, (∀ c ∈ m, ∀ e ∈ cells, c.1 < e.1) →
      cells.foldl (fun m c => if isRamKey c.1 then Memory.write m c.1 c.2 else m) m = m ++ cells from
    hs [] (by simp)
  induction cells with
  | nil => simp
  | cons d cells ih =>
    obtain ⟨k, v⟩ := d
    obtain ⟨h1, h2, h3, h4⟩ := (memory_wf_cons k v cells).1 h
    intro m hm
    have hk : ∀ c ∈ m, c.1 < k := fun c hc => hm c hc (k, v) (by simp)
    rw [List.foldl_cons, if_pos h1, memory_write_above h2 hk, ih h4]
    · simp
    · intro c hc e he
      rcases List.mem_append.1 hc with hc | hc
      · exact hm c hc e (by simp [he])
      · simp only [List.mem_singleton] at hc
        subst hc
        exact h3 e he

/-- Two canonical memories that read the same everywhere are equal. -/
theorem memory_ext {m n : Memory} (hm : Memory.wf m = true) (hn : Memory.wf n = true)
    (h : ∀ k, Memory.read m k = Memory.read n k) : m = n := by
  induction m generalizing n with
  | nil =>
    cases n with
    | nil => rfl
    | cons c n =>
      obtain ⟨j, w⟩ := c
      have := h j
      simp only [Memory.read, if_true] at this
      exact absurd this.symm ((memory_wf_cons j w n).1 hn).2.1
  | cons c m ih =>
    obtain ⟨j, w⟩ := c
    obtain ⟨-, hw, hlt, hm'⟩ := (memory_wf_cons j w m).1 hm
    cases n with
    | nil =>
      have := h j
      simp only [Memory.read, if_true] at this
      exact absurd this hw
    | cons d n =>
      obtain ⟨i, u⟩ := d
      obtain ⟨-, hu, hltn, hn'⟩ := (memory_wf_cons i u n).1 hn
      have hj := h j
      have hi := h i
      simp only [Memory.read, if_true] at hj hi
      have hij : i = j := by
        rcases Nat.lt_trichotomy i j with hl | he | hg
        · rw [if_neg (by omega), memory_read_below m i fun c hc => Nat.lt_trans hl (hlt c hc)] at hi
          exact absurd hi.symm hu
        · exact he
        · rw [if_neg (by omega), memory_read_below n j fun c hc => Nat.lt_trans hg (hltn c hc)] at hj
          exact absurd hj hw
      subst hij
      rw [if_pos rfl] at hj
      subst hj
      congr 1
      refine ih hm' hn' fun k => ?_
      by_cases hk : i = k
      · subst hk
        rw [memory_read_below m i hlt, memory_read_below n i hltn]
      · have := h k
        simpa only [Memory.read, if_neg hk] using this

end Sys2Proof.Machine
end

