-- ==== Sys2Proof/Laws/Bus.lean ====
section
/-! SUPPORT. The bus: which keys addresses reach, what a read and a write leave of it, and read after write. -/
namespace Sys2Proof.Machine

variable (b : Bus) (a x : Word) (v : Byte)

/-- An address that reaches RAM reaches one of the three stores (R69, R70, R74). -/
theorem ramKey_isRamKey {a : Word} {k : Nat} (h : ramKey a = some k) : isRamKey k = true := by
  have ha := a.isLt
  unfold ramKey at h
  split at h <;> cases h <;> simp [isRamKey] <;> omega

/-- An address below 0x0100 reaches no RAM, so an overlaid address reaches none (R64). -/
theorem ramKey_low {a : Word} (h : a.toNat < 0x100) : ramKey a = none := by
  have : region a = .rom := by unfold region; dsimp only; rw [if_pos (by omega)]
  simp [ramKey, this]

theorem ramKey_overlaid {b : Bus} {a : Word} (h : b.overlaid a = true) : ramKey a = none := by
  simp only [Bus.overlaid, Bool.and_eq_true, decide_eq_true_eq] at h
  exact ramKey_low h.2

@[simp] theorem store_cfg : (b.store a v).cfg = b.cfg := by unfold Bus.store; split <;> rfl
@[simp] theorem store_biosOverlay : (b.store a v).biosOverlay = b.biosOverlay := by unfold Bus.store; split <;> rfl
@[simp] theorem store_overlaid : (b.store a v).overlaid x = b.overlaid x := by simp [Bus.overlaid]
@[simp] theorem touch_cfg : (b.touch a).cfg = b.cfg := by unfold Bus.touch; split <;> rfl
@[simp] theorem touch_ram : (b.touch a).ram = b.ram := by unfold Bus.touch; split <;> rfl

/-- What a read leaves of the latch (R66). -/
theorem touch_biosOverlay :
    (b.touch a).biosOverlay = (b.biosOverlay && !(decide (0x100 ≤ a.toNat) && decide (a.toNat ≤ 0x7FFF))) := by
  unfold Bus.touch
  split
  · next h => simp only [Bool.and_eq_true] at h; simp [h]
  · next h => cases hb : b.biosOverlay <;> simp_all; omega

/-- A read never sets the latch (R66). -/
theorem touch_biosOverlay_le (h : (b.touch a).biosOverlay = true) : b.biosOverlay = true := by
  rw [touch_biosOverlay] at h
  exact (Bool.and_eq_true_iff.1 h).1

/-- With the latch at 0 a read changes nothing (R80). -/
theorem touch_of_not_overlay (h : b.biosOverlay = false) : b.touch a = b := by
  simp [Bus.touch, h]

/-- A write keeps the RAM stores canonical. -/
theorem store_wf (h : Memory.wf b.ram = true) : Memory.wf (b.store a v).ram = true := by
  unfold Bus.store
  split
  · next k hk => exact memory_write_wf v (ramKey_isRamKey hk) h
  · exact h

/-- A RAM address reads its store's byte (R69, R70, R74). -/
theorem peek_of_ramKey {a : Word} {k : Nat} (h : ramKey a = some k) : b.peek a = Memory.read b.ram k := by
  have hr := h
  unfold ramKey at hr
  unfold Bus.peek
  split at hr <;> simp_all

/-- An address without RAM reads the same whatever the RAM holds (R65, R68, R71 to R73). -/
theorem peek_of_ramKey_none {a : Word} (h : ramKey a = none) (m : Memory) :
    ({ b with ram := m } : Bus).peek a = b.peek a := by
  unfold ramKey at h
  unfold Bus.peek
  split at h <;> simp_all [Bus.romRead, Bus.overlaid]

/-- A byte stored in RAM is read back at every address that reaches it, the mirror's among them (R70, R83). -/
theorem peek_store_same {a x : Word} {k : Nat} (ha : ramKey a = some k) (hx : ramKey x = some k)
    (h : Memory.wf b.ram = true) : (b.store a v).peek x = v := by
  rw [peek_of_ramKey _ hx]
  simp only [Bus.store, ha]
  exact memory_read_write_same b.ram k v h

/-- A byte write leaves what every other address reads (R63). -/
theorem peek_store_other (h : ramKey x = none ∨ ramKey x ≠ ramKey a) : (b.store a v).peek x = b.peek x := by
  unfold Bus.store
  split
  · next k hk =>
    cases hx : ramKey x with
    | none => exact peek_of_ramKey_none b hx _
    | some j =>
      rw [peek_of_ramKey _ hx, peek_of_ramKey _ hx]
      refine memory_read_write_other b.ram v fun hj => ?_
      rcases h with h | h
      · simp [hx] at h
      · exact h (by rw [hx, hk, hj])
  · rfl

/-- A write where no RAM is stores nothing (R67, R68, R71 to R73). -/
theorem store_of_ramKey_none (h : ramKey a = none) : b.store a v = b := by
  simp [Bus.store, h]

end Sys2Proof.Machine
end

