-- ==== Sys2Proof/Laws/PerInstr.lean ====
section
/-! SUPPORT. Per-instruction laws about the instruction as syntax. -/
namespace Sys2Proof.Laws.EncodeLength

/-- The encoder writes as many bytes as the instruction's table entry states (R100, R103). -/
def Statement (i : Instr) : Prop := (encode i).length = i.length

theorem ldBcD16 (v : Word) : Statement (.ldBcD16 v) := rfl

theorem ldBD8 (v : Byte) : Statement (.ldBD8 v) := rfl

theorem ldMemA16Sp (a : Word) : Statement (.ldMemA16Sp a) := rfl

theorem ldCD8 (v : Byte) : Statement (.ldCD8 v) := rfl

theorem stop (x : Byte) : Statement (.stop x) := rfl

theorem ldDeD16 (v : Word) : Statement (.ldDeD16 v) := rfl

theorem ldDD8 (v : Byte) : Statement (.ldDD8 v) := rfl

theorem jr (e : Byte) : Statement (.jr e) := rfl

theorem ldED8 (v : Byte) : Statement (.ldED8 v) := rfl

theorem jrNz (e : Byte) : Statement (.jrNz e) := rfl

theorem ldHlD16 (v : Word) : Statement (.ldHlD16 v) := rfl

theorem ldHD8 (v : Byte) : Statement (.ldHD8 v) := rfl

theorem jrZ (e : Byte) : Statement (.jrZ e) := rfl

theorem ldLD8 (v : Byte) : Statement (.ldLD8 v) := rfl

theorem jrNc (e : Byte) : Statement (.jrNc e) := rfl

theorem ldSpD16 (v : Word) : Statement (.ldSpD16 v) := rfl

theorem ldMemHlD8 (v : Byte) : Statement (.ldMemHlD8 v) := rfl

theorem jrC (e : Byte) : Statement (.jrC e) := rfl

theorem ldAD8 (v : Byte) : Statement (.ldAD8 v) := rfl

theorem jpNz (a : Word) : Statement (.jpNz a) := rfl

theorem jp (a : Word) : Statement (.jp a) := rfl

theorem callNz (a : Word) : Statement (.callNz a) := rfl

theorem addAD8 (v : Byte) : Statement (.addAD8 v) := rfl

theorem jpZ (a : Word) : Statement (.jpZ a) := rfl

theorem callZ (a : Word) : Statement (.callZ a) := rfl

theorem call (a : Word) : Statement (.call a) := rfl

theorem adcAD8 (v : Byte) : Statement (.adcAD8 v) := rfl

theorem jpNc (a : Word) : Statement (.jpNc a) := rfl

theorem undefined (op : Byte) (h : (Instr.undefined op).wellFormed = true) : Statement (.undefined op) := by
  simp only [Instr.wellFormed, undefinedOpcodes, List.contains_eq_mem, List.mem_cons, List.not_mem_nil, or_false, decide_eq_true_eq] at h
  rcases h with rfl | rfl | rfl | rfl | rfl | rfl | rfl | rfl | rfl | rfl | rfl <;> rfl

theorem callNc (a : Word) : Statement (.callNc a) := rfl

theorem subD8 (v : Byte) : Statement (.subD8 v) := rfl

theorem jpC (a : Word) : Statement (.jpC a) := rfl

theorem callC (a : Word) : Statement (.callC a) := rfl

theorem sbcAD8 (v : Byte) : Statement (.sbcAD8 v) := rfl

theorem ldhMemA8A (o : Byte) : Statement (.ldhMemA8A o) := rfl

theorem andD8 (v : Byte) : Statement (.andD8 v) := rfl

theorem addSpE8 (e : Byte) : Statement (.addSpE8 e) := rfl

theorem ldMemA16A (a : Word) : Statement (.ldMemA16A a) := rfl

theorem xorD8 (v : Byte) : Statement (.xorD8 v) := rfl

theorem ldhAMemA8 (o : Byte) : Statement (.ldhAMemA8 o) := rfl

theorem orD8 (v : Byte) : Statement (.orD8 v) := rfl

theorem ldHlSpE8 (e : Byte) : Statement (.ldHlSpE8 e) := rfl

theorem ldAMemA16 (a : Word) : Statement (.ldAMemA16 a) := rfl

theorem cpD8 (v : Byte) : Statement (.cpD8 v) := rfl

theorem nop : Statement .nop := rfl

theorem ldMemBcA : Statement .ldMemBcA := rfl

theorem incBc : Statement .incBc := rfl

theorem incB : Statement .incB := rfl

theorem decB : Statement .decB := rfl

theorem rlca : Statement .rlca := rfl

theorem addHlBc : Statement .addHlBc := rfl

theorem ldAMemBc : Statement .ldAMemBc := rfl

theorem decBc : Statement .decBc := rfl

theorem incC : Statement .incC := rfl

theorem decC : Statement .decC := rfl

theorem rrca : Statement .rrca := rfl

theorem ldMemDeA : Statement .ldMemDeA := rfl

theorem incDe : Statement .incDe := rfl

theorem incD : Statement .incD := rfl

theorem decD : Statement .decD := rfl

theorem rla : Statement .rla := rfl

theorem addHlDe : Statement .addHlDe := rfl

theorem ldAMemDe : Statement .ldAMemDe := rfl

theorem decDe : Statement .decDe := rfl

theorem incE : Statement .incE := rfl

theorem decE : Statement .decE := rfl

theorem rra : Statement .rra := rfl

theorem ldMemHlIncA : Statement .ldMemHlIncA := rfl

theorem incHl : Statement .incHl := rfl

theorem incH : Statement .incH := rfl

theorem decH : Statement .decH := rfl

theorem daa : Statement .daa := rfl

theorem addHlHl : Statement .addHlHl := rfl

theorem ldAMemHlInc : Statement .ldAMemHlInc := rfl

theorem decHl : Statement .decHl := rfl

theorem incL : Statement .incL := rfl

theorem decL : Statement .decL := rfl

theorem cpl : Statement .cpl := rfl

theorem ldMemHlDecA : Statement .ldMemHlDecA := rfl

theorem incSp : Statement .incSp := rfl

theorem incMemHl : Statement .incMemHl := rfl

theorem decMemHl : Statement .decMemHl := rfl

theorem scf : Statement .scf := rfl

theorem addHlSp : Statement .addHlSp := rfl

theorem ldAMemHlDec : Statement .ldAMemHlDec := rfl

theorem decSp : Statement .decSp := rfl

theorem incA : Statement .incA := rfl

theorem decA : Statement .decA := rfl

theorem ccf : Statement .ccf := rfl

theorem ldBB : Statement .ldBB := rfl

theorem ldBC : Statement .ldBC := rfl

theorem ldBD : Statement .ldBD := rfl

theorem ldBE : Statement .ldBE := rfl

theorem ldBH : Statement .ldBH := rfl

theorem ldBL : Statement .ldBL := rfl

theorem ldBMemHl : Statement .ldBMemHl := rfl

theorem ldBA : Statement .ldBA := rfl

theorem ldCB : Statement .ldCB := rfl

theorem ldCC : Statement .ldCC := rfl

theorem ldCD : Statement .ldCD := rfl

theorem ldCE : Statement .ldCE := rfl

theorem ldCH : Statement .ldCH := rfl

theorem ldCL : Statement .ldCL := rfl

theorem ldCMemHl : Statement .ldCMemHl := rfl

theorem ldCA : Statement .ldCA := rfl

theorem ldDB : Statement .ldDB := rfl

theorem ldDC : Statement .ldDC := rfl

theorem ldDD : Statement .ldDD := rfl

theorem ldDE : Statement .ldDE := rfl

theorem ldDH : Statement .ldDH := rfl

theorem ldDL : Statement .ldDL := rfl

theorem ldDMemHl : Statement .ldDMemHl := rfl

theorem ldDA : Statement .ldDA := rfl

theorem ldEB : Statement .ldEB := rfl

theorem ldEC : Statement .ldEC := rfl

theorem ldED : Statement .ldED := rfl

theorem ldEE : Statement .ldEE := rfl

theorem ldEH : Statement .ldEH := rfl

theorem ldEL : Statement .ldEL := rfl

theorem ldEMemHl : Statement .ldEMemHl := rfl

theorem ldEA : Statement .ldEA := rfl

theorem ldHB : Statement .ldHB := rfl

theorem ldHC : Statement .ldHC := rfl

theorem ldHD : Statement .ldHD := rfl

theorem ldHE : Statement .ldHE := rfl

theorem ldHH : Statement .ldHH := rfl

theorem ldHL : Statement .ldHL := rfl

theorem ldHMemHl : Statement .ldHMemHl := rfl

theorem ldHA : Statement .ldHA := rfl

theorem ldLB : Statement .ldLB := rfl

theorem ldLC : Statement .ldLC := rfl

theorem ldLD : Statement .ldLD := rfl

theorem ldLE : Statement .ldLE := rfl

theorem ldLH : Statement .ldLH := rfl

theorem ldLL : Statement .ldLL := rfl

theorem ldLMemHl : Statement .ldLMemHl := rfl

theorem ldLA : Statement .ldLA := rfl

theorem ldMemHlB : Statement .ldMemHlB := rfl

theorem ldMemHlC : Statement .ldMemHlC := rfl

theorem ldMemHlD : Statement .ldMemHlD := rfl

theorem ldMemHlE : Statement .ldMemHlE := rfl

theorem ldMemHlH : Statement .ldMemHlH := rfl

theorem ldMemHlL : Statement .ldMemHlL := rfl

theorem halt : Statement .halt := rfl

theorem ldMemHlA : Statement .ldMemHlA := rfl

theorem ldAB : Statement .ldAB := rfl

theorem ldAC : Statement .ldAC := rfl

theorem ldAD : Statement .ldAD := rfl

theorem ldAE : Statement .ldAE := rfl

theorem ldAH : Statement .ldAH := rfl

theorem ldAL : Statement .ldAL := rfl

theorem ldAMemHl : Statement .ldAMemHl := rfl

theorem ldAA : Statement .ldAA := rfl

theorem addAB : Statement .addAB := rfl

theorem addAC : Statement .addAC := rfl

theorem addAD : Statement .addAD := rfl

theorem addAE : Statement .addAE := rfl

theorem addAH : Statement .addAH := rfl

theorem addAL : Statement .addAL := rfl

theorem addAMemHl : Statement .addAMemHl := rfl

theorem addAA : Statement .addAA := rfl

theorem adcAB : Statement .adcAB := rfl

theorem adcAC : Statement .adcAC := rfl

theorem adcAD : Statement .adcAD := rfl

theorem adcAE : Statement .adcAE := rfl

theorem adcAH : Statement .adcAH := rfl

theorem adcAL : Statement .adcAL := rfl

theorem adcAMemHl : Statement .adcAMemHl := rfl

theorem adcAA : Statement .adcAA := rfl

theorem subB : Statement .subB := rfl

theorem subC : Statement .subC := rfl

theorem subD : Statement .subD := rfl

theorem subE : Statement .subE := rfl

theorem subH : Statement .subH := rfl

theorem subL : Statement .subL := rfl

theorem subMemHl : Statement .subMemHl := rfl

theorem subA : Statement .subA := rfl

theorem sbcAB : Statement .sbcAB := rfl

theorem sbcAC : Statement .sbcAC := rfl

theorem sbcAD : Statement .sbcAD := rfl

theorem sbcAE : Statement .sbcAE := rfl

theorem sbcAH : Statement .sbcAH := rfl

theorem sbcAL : Statement .sbcAL := rfl

theorem sbcAMemHl : Statement .sbcAMemHl := rfl

theorem sbcAA : Statement .sbcAA := rfl

theorem andB : Statement .andB := rfl

theorem andC : Statement .andC := rfl

theorem andD : Statement .andD := rfl

theorem andE : Statement .andE := rfl

theorem andH : Statement .andH := rfl

theorem andL : Statement .andL := rfl

theorem andMemHl : Statement .andMemHl := rfl

theorem andA : Statement .andA := rfl

theorem xorB : Statement .xorB := rfl

theorem xorC : Statement .xorC := rfl

theorem xorD : Statement .xorD := rfl

theorem xorE : Statement .xorE := rfl

theorem xorH : Statement .xorH := rfl

theorem xorL : Statement .xorL := rfl

theorem xorMemHl : Statement .xorMemHl := rfl

theorem xorA : Statement .xorA := rfl

theorem orB : Statement .orB := rfl

theorem orC : Statement .orC := rfl

theorem orD : Statement .orD := rfl

theorem orE : Statement .orE := rfl

theorem orH : Statement .orH := rfl

theorem orL : Statement .orL := rfl

theorem orMemHl : Statement .orMemHl := rfl

theorem orA : Statement .orA := rfl

theorem cpB : Statement .cpB := rfl

theorem cpC : Statement .cpC := rfl

theorem cpD : Statement .cpD := rfl

theorem cpE : Statement .cpE := rfl

theorem cpH : Statement .cpH := rfl

theorem cpL : Statement .cpL := rfl

theorem cpMemHl : Statement .cpMemHl := rfl

theorem cpA : Statement .cpA := rfl

theorem retNz : Statement .retNz := rfl

theorem popBc : Statement .popBc := rfl

theorem pushBc : Statement .pushBc := rfl

theorem rst00 : Statement .rst00 := rfl

theorem retZ : Statement .retZ := rfl

theorem ret : Statement .ret := rfl

theorem prefixCb : Statement .prefixCb := rfl

theorem rst08 : Statement .rst08 := rfl

theorem retNc : Statement .retNc := rfl

theorem popDe : Statement .popDe := rfl

theorem pushDe : Statement .pushDe := rfl

theorem rst10 : Statement .rst10 := rfl

theorem retC : Statement .retC := rfl

theorem reti : Statement .reti := rfl

theorem rst18 : Statement .rst18 := rfl

theorem popHl : Statement .popHl := rfl

theorem ldMemCA : Statement .ldMemCA := rfl

theorem pushHl : Statement .pushHl := rfl

theorem rst20 : Statement .rst20 := rfl

theorem jpHl : Statement .jpHl := rfl

theorem rst28 : Statement .rst28 := rfl

theorem popAf : Statement .popAf := rfl

theorem ldAMemC : Statement .ldAMemC := rfl

theorem di : Statement .di := rfl

theorem pushAf : Statement .pushAf := rfl

theorem rst30 : Statement .rst30 := rfl

theorem ldSpHl : Statement .ldSpHl := rfl

theorem ei : Statement .ei := rfl

theorem rst38 : Statement .rst38 := rfl

theorem rlcB : Statement .rlcB := rfl

theorem rlcC : Statement .rlcC := rfl

theorem rlcD : Statement .rlcD := rfl

theorem rlcE : Statement .rlcE := rfl

theorem rlcH : Statement .rlcH := rfl

theorem rlcL : Statement .rlcL := rfl

theorem rlcMemHl : Statement .rlcMemHl := rfl

theorem rlcA : Statement .rlcA := rfl

theorem rrcB : Statement .rrcB := rfl

theorem rrcC : Statement .rrcC := rfl

theorem rrcD : Statement .rrcD := rfl

theorem rrcE : Statement .rrcE := rfl

theorem rrcH : Statement .rrcH := rfl

theorem rrcL : Statement .rrcL := rfl

theorem rrcMemHl : Statement .rrcMemHl := rfl

theorem rrcA : Statement .rrcA := rfl

theorem rlB : Statement .rlB := rfl

theorem rlC : Statement .rlC := rfl

theorem rlD : Statement .rlD := rfl

theorem rlE : Statement .rlE := rfl

theorem rlH : Statement .rlH := rfl

theorem rlL : Statement .rlL := rfl

theorem rlMemHl : Statement .rlMemHl := rfl

theorem rlA : Statement .rlA := rfl

theorem rrB : Statement .rrB := rfl

theorem rrC : Statement .rrC := rfl

theorem rrD : Statement .rrD := rfl

theorem rrE : Statement .rrE := rfl

theorem rrH : Statement .rrH := rfl

theorem rrL : Statement .rrL := rfl

theorem rrMemHl : Statement .rrMemHl := rfl

theorem rrA : Statement .rrA := rfl

theorem slaB : Statement .slaB := rfl

theorem slaC : Statement .slaC := rfl

theorem slaD : Statement .slaD := rfl

theorem slaE : Statement .slaE := rfl

theorem slaH : Statement .slaH := rfl

theorem slaL : Statement .slaL := rfl

theorem slaMemHl : Statement .slaMemHl := rfl

theorem slaA : Statement .slaA := rfl

theorem sraB : Statement .sraB := rfl

theorem sraC : Statement .sraC := rfl

theorem sraD : Statement .sraD := rfl

theorem sraE : Statement .sraE := rfl

theorem sraH : Statement .sraH := rfl

theorem sraL : Statement .sraL := rfl

theorem sraMemHl : Statement .sraMemHl := rfl

theorem sraA : Statement .sraA := rfl

theorem swapB : Statement .swapB := rfl

theorem swapC : Statement .swapC := rfl

theorem swapD : Statement .swapD := rfl

theorem swapE : Statement .swapE := rfl

theorem swapH : Statement .swapH := rfl

theorem swapL : Statement .swapL := rfl

theorem swapMemHl : Statement .swapMemHl := rfl

theorem swapA : Statement .swapA := rfl

theorem srlB : Statement .srlB := rfl

theorem srlC : Statement .srlC := rfl

theorem srlD : Statement .srlD := rfl

theorem srlE : Statement .srlE := rfl

theorem srlH : Statement .srlH := rfl

theorem srlL : Statement .srlL := rfl

theorem srlMemHl : Statement .srlMemHl := rfl

theorem srlA : Statement .srlA := rfl

theorem bit0B : Statement .bit0B := rfl

theorem bit0C : Statement .bit0C := rfl

theorem bit0D : Statement .bit0D := rfl

theorem bit0E : Statement .bit0E := rfl

theorem bit0H : Statement .bit0H := rfl

theorem bit0L : Statement .bit0L := rfl

theorem bit0MemHl : Statement .bit0MemHl := rfl

theorem bit0A : Statement .bit0A := rfl

theorem bit1B : Statement .bit1B := rfl

theorem bit1C : Statement .bit1C := rfl

theorem bit1D : Statement .bit1D := rfl

theorem bit1E : Statement .bit1E := rfl

theorem bit1H : Statement .bit1H := rfl

theorem bit1L : Statement .bit1L := rfl

theorem bit1MemHl : Statement .bit1MemHl := rfl

theorem bit1A : Statement .bit1A := rfl

theorem bit2B : Statement .bit2B := rfl

theorem bit2C : Statement .bit2C := rfl

theorem bit2D : Statement .bit2D := rfl

theorem bit2E : Statement .bit2E := rfl

theorem bit2H : Statement .bit2H := rfl

theorem bit2L : Statement .bit2L := rfl

theorem bit2MemHl : Statement .bit2MemHl := rfl

theorem bit2A : Statement .bit2A := rfl

theorem bit3B : Statement .bit3B := rfl

theorem bit3C : Statement .bit3C := rfl

theorem bit3D : Statement .bit3D := rfl

theorem bit3E : Statement .bit3E := rfl

theorem bit3H : Statement .bit3H := rfl

theorem bit3L : Statement .bit3L := rfl

theorem bit3MemHl : Statement .bit3MemHl := rfl

theorem bit3A : Statement .bit3A := rfl

theorem bit4B : Statement .bit4B := rfl

theorem bit4C : Statement .bit4C := rfl

theorem bit4D : Statement .bit4D := rfl

theorem bit4E : Statement .bit4E := rfl

theorem bit4H : Statement .bit4H := rfl

theorem bit4L : Statement .bit4L := rfl

theorem bit4MemHl : Statement .bit4MemHl := rfl

theorem bit4A : Statement .bit4A := rfl

theorem bit5B : Statement .bit5B := rfl

theorem bit5C : Statement .bit5C := rfl

theorem bit5D : Statement .bit5D := rfl

theorem bit5E : Statement .bit5E := rfl

theorem bit5H : Statement .bit5H := rfl

theorem bit5L : Statement .bit5L := rfl

theorem bit5MemHl : Statement .bit5MemHl := rfl

theorem bit5A : Statement .bit5A := rfl

theorem bit6B : Statement .bit6B := rfl

theorem bit6C : Statement .bit6C := rfl

theorem bit6D : Statement .bit6D := rfl

theorem bit6E : Statement .bit6E := rfl

theorem bit6H : Statement .bit6H := rfl

theorem bit6L : Statement .bit6L := rfl

theorem bit6MemHl : Statement .bit6MemHl := rfl

theorem bit6A : Statement .bit6A := rfl

theorem bit7B : Statement .bit7B := rfl

theorem bit7C : Statement .bit7C := rfl

theorem bit7D : Statement .bit7D := rfl

theorem bit7E : Statement .bit7E := rfl

theorem bit7H : Statement .bit7H := rfl

theorem bit7L : Statement .bit7L := rfl

theorem bit7MemHl : Statement .bit7MemHl := rfl

theorem bit7A : Statement .bit7A := rfl

theorem res0B : Statement .res0B := rfl

theorem res0C : Statement .res0C := rfl

theorem res0D : Statement .res0D := rfl

theorem res0E : Statement .res0E := rfl

theorem res0H : Statement .res0H := rfl

theorem res0L : Statement .res0L := rfl

theorem res0MemHl : Statement .res0MemHl := rfl

theorem res0A : Statement .res0A := rfl

theorem res1B : Statement .res1B := rfl

theorem res1C : Statement .res1C := rfl

theorem res1D : Statement .res1D := rfl

theorem res1E : Statement .res1E := rfl

theorem res1H : Statement .res1H := rfl

theorem res1L : Statement .res1L := rfl

theorem res1MemHl : Statement .res1MemHl := rfl

theorem res1A : Statement .res1A := rfl

theorem res2B : Statement .res2B := rfl

theorem res2C : Statement .res2C := rfl

theorem res2D : Statement .res2D := rfl

theorem res2E : Statement .res2E := rfl

theorem res2H : Statement .res2H := rfl

theorem res2L : Statement .res2L := rfl

theorem res2MemHl : Statement .res2MemHl := rfl

theorem res2A : Statement .res2A := rfl

theorem res3B : Statement .res3B := rfl

theorem res3C : Statement .res3C := rfl

theorem res3D : Statement .res3D := rfl

theorem res3E : Statement .res3E := rfl

theorem res3H : Statement .res3H := rfl

theorem res3L : Statement .res3L := rfl

theorem res3MemHl : Statement .res3MemHl := rfl

theorem res3A : Statement .res3A := rfl

theorem res4B : Statement .res4B := rfl

theorem res4C : Statement .res4C := rfl

theorem res4D : Statement .res4D := rfl

theorem res4E : Statement .res4E := rfl

theorem res4H : Statement .res4H := rfl

theorem res4L : Statement .res4L := rfl

theorem res4MemHl : Statement .res4MemHl := rfl

theorem res4A : Statement .res4A := rfl

theorem res5B : Statement .res5B := rfl

theorem res5C : Statement .res5C := rfl

theorem res5D : Statement .res5D := rfl

theorem res5E : Statement .res5E := rfl

theorem res5H : Statement .res5H := rfl

theorem res5L : Statement .res5L := rfl

theorem res5MemHl : Statement .res5MemHl := rfl

theorem res5A : Statement .res5A := rfl

theorem res6B : Statement .res6B := rfl

theorem res6C : Statement .res6C := rfl

theorem res6D : Statement .res6D := rfl

theorem res6E : Statement .res6E := rfl

theorem res6H : Statement .res6H := rfl

theorem res6L : Statement .res6L := rfl

theorem res6MemHl : Statement .res6MemHl := rfl

theorem res6A : Statement .res6A := rfl

theorem res7B : Statement .res7B := rfl

theorem res7C : Statement .res7C := rfl

theorem res7D : Statement .res7D := rfl

theorem res7E : Statement .res7E := rfl

theorem res7H : Statement .res7H := rfl

theorem res7L : Statement .res7L := rfl

theorem res7MemHl : Statement .res7MemHl := rfl

theorem res7A : Statement .res7A := rfl

theorem set0B : Statement .set0B := rfl

theorem set0C : Statement .set0C := rfl

theorem set0D : Statement .set0D := rfl

theorem set0E : Statement .set0E := rfl

theorem set0H : Statement .set0H := rfl

theorem set0L : Statement .set0L := rfl

theorem set0MemHl : Statement .set0MemHl := rfl

theorem set0A : Statement .set0A := rfl

theorem set1B : Statement .set1B := rfl

theorem set1C : Statement .set1C := rfl

theorem set1D : Statement .set1D := rfl

theorem set1E : Statement .set1E := rfl

theorem set1H : Statement .set1H := rfl

theorem set1L : Statement .set1L := rfl

theorem set1MemHl : Statement .set1MemHl := rfl

theorem set1A : Statement .set1A := rfl

theorem set2B : Statement .set2B := rfl

theorem set2C : Statement .set2C := rfl

theorem set2D : Statement .set2D := rfl

theorem set2E : Statement .set2E := rfl

theorem set2H : Statement .set2H := rfl

theorem set2L : Statement .set2L := rfl

theorem set2MemHl : Statement .set2MemHl := rfl

theorem set2A : Statement .set2A := rfl

theorem set3B : Statement .set3B := rfl

theorem set3C : Statement .set3C := rfl

theorem set3D : Statement .set3D := rfl

theorem set3E : Statement .set3E := rfl

theorem set3H : Statement .set3H := rfl

theorem set3L : Statement .set3L := rfl

theorem set3MemHl : Statement .set3MemHl := rfl

theorem set3A : Statement .set3A := rfl

theorem set4B : Statement .set4B := rfl

theorem set4C : Statement .set4C := rfl

theorem set4D : Statement .set4D := rfl

theorem set4E : Statement .set4E := rfl

theorem set4H : Statement .set4H := rfl

theorem set4L : Statement .set4L := rfl

theorem set4MemHl : Statement .set4MemHl := rfl

theorem set4A : Statement .set4A := rfl

theorem set5B : Statement .set5B := rfl

theorem set5C : Statement .set5C := rfl

theorem set5D : Statement .set5D := rfl

theorem set5E : Statement .set5E := rfl

theorem set5H : Statement .set5H := rfl

theorem set5L : Statement .set5L := rfl

theorem set5MemHl : Statement .set5MemHl := rfl

theorem set5A : Statement .set5A := rfl

theorem set6B : Statement .set6B := rfl

theorem set6C : Statement .set6C := rfl

theorem set6D : Statement .set6D := rfl

theorem set6E : Statement .set6E := rfl

theorem set6H : Statement .set6H := rfl

theorem set6L : Statement .set6L := rfl

theorem set6MemHl : Statement .set6MemHl := rfl

theorem set6A : Statement .set6A := rfl

theorem set7B : Statement .set7B := rfl

theorem set7C : Statement .set7C := rfl

theorem set7D : Statement .set7D := rfl

theorem set7E : Statement .set7E := rfl

theorem set7H : Statement .set7H := rfl

theorem set7L : Statement .set7L := rfl

theorem set7MemHl : Statement .set7MemHl := rfl

theorem set7A : Statement .set7A := rfl

end Sys2Proof.Laws.EncodeLength
end

