-- ==== Sys2Proof/Laws/Decode.lean ====
section
/-! SUPPORT. The instruction table: every entry stands at its own opcode, the extended table has no gap, and the behaviours of
the extended table are exec's arms. -/
namespace Sys2Proof

/-- Every primary entry stands at its own opcode (R117). -/
theorem primary_opcode (op : Byte) (d : Descriptor) (h : primary op = some d) : d.opcode = op := by
  have all : ∀ op : Byte, (primary op).all (fun d => d.opcode == op) = true := by decide
  simpa [h] using all op

/-- Every extended entry stands at its own opcode, so the default is never answered (R134). -/
theorem extended_opcode : ∀ op2 : Byte, (extended op2).opcode = op2 := by decide

/-- Every extended entry is an instruction without an immediate (R110). -/
theorem extended_plain (op2 : Byte) : (extended op2).form = .plain (extendedInstr op2) := by
  have all : ∀ op2 : Byte, (match (extended op2).form with | .plain _ => true | _ => false) = true := by decide
  have := all op2
  unfold extendedInstr
  split at this
  · next i h => rw [h]; rfl
  · cases this

/-- A well-formed undefined opcode has no table entry (R111). -/
theorem descriptorOf_undefined {op : Byte} (h : (Instr.undefined op).wellFormed = true) :
    descriptorOf (.undefined op) = none := by
  simp only [Instr.wellFormed, undefinedOpcodes, List.contains_eq_mem, decide_eq_true_eq, List.mem_cons,
    List.not_mem_nil, or_false] at h
  rcases h with h | h | h | h | h | h | h | h | h | h | h <;> subst h <;> rfl

/-- A property of every byte, one value at a time. -/
theorem forall_byte {P : Byte → Prop} (h : ∀ n < 256, P (BitVec.ofNat 8 n)) (b : Byte) : P b := by
  simpa using h b.toNat b.isLt

namespace Machine

/-- An extended opcode's behaviour is exec of its instruction (R133, R134). -/
theorem extendedMeaning_eq_exec (op2 : Byte) : extendedMeaning op2 = exec (extendedInstr op2) := by
  revert op2
  refine forall_byte fun n hn => ?_
  interval_cases n <;> rfl

end Machine

end Sys2Proof
end

