-- ==== Sys2Proof/Laws/State.lean ====
section
/-! SUPPORT. What each state update does to each field, true by rfl, so that no later proof unfolds a record update. -/
namespace Sys2Proof.Machine

variable (s : State)

@[simp] theorem setFlags_rf_a (f : Flags) : (setFlags f s).rf.a = s.rf.a := rfl
@[simp] theorem setFlags_rf_b (f : Flags) : (setFlags f s).rf.b = s.rf.b := rfl
@[simp] theorem setFlags_rf_c (f : Flags) : (setFlags f s).rf.c = s.rf.c := rfl
@[simp] theorem setFlags_rf_d (f : Flags) : (setFlags f s).rf.d = s.rf.d := rfl
@[simp] theorem setFlags_rf_e (f : Flags) : (setFlags f s).rf.e = s.rf.e := rfl
@[simp] theorem setFlags_rf_h (f : Flags) : (setFlags f s).rf.h = s.rf.h := rfl
@[simp] theorem setFlags_rf_l (f : Flags) : (setFlags f s).rf.l = s.rf.l := rfl
@[simp] theorem setFlags_rf_f (f : Flags) : (setFlags f s).rf.f = f := rfl
@[simp] theorem setFlags_rf_pc (f : Flags) : (setFlags f s).rf.pc = s.rf.pc := rfl
@[simp] theorem setFlags_rf_sp (f : Flags) : (setFlags f s).rf.sp = s.rf.sp := rfl
@[simp] theorem setFlags_bus (f : Flags) : (setFlags f s).bus = s.bus := rfl
@[simp] theorem setFlags_ime (f : Flags) : (setFlags f s).ime = s.ime := rfl
@[simp] theorem setFlags_halted (f : Flags) : (setFlags f s).halted = s.halted := rfl
@[simp] theorem setFlags_seq (f : Flags) : (setFlags f s).seq = s.seq := rfl
@[simp] theorem setFlags_cycles (f : Flags) : (setFlags f s).cycles = s.cycles := rfl
@[simp] theorem setFlags_events (f : Flags) : (setFlags f s).events = s.events := rfl

@[simp] theorem setPc_rf_a (v : Word) : (setPc v s).rf.a = s.rf.a := rfl
@[simp] theorem setPc_rf_b (v : Word) : (setPc v s).rf.b = s.rf.b := rfl
@[simp] theorem setPc_rf_c (v : Word) : (setPc v s).rf.c = s.rf.c := rfl
@[simp] theorem setPc_rf_d (v : Word) : (setPc v s).rf.d = s.rf.d := rfl
@[simp] theorem setPc_rf_e (v : Word) : (setPc v s).rf.e = s.rf.e := rfl
@[simp] theorem setPc_rf_h (v : Word) : (setPc v s).rf.h = s.rf.h := rfl
@[simp] theorem setPc_rf_l (v : Word) : (setPc v s).rf.l = s.rf.l := rfl
@[simp] theorem setPc_rf_f (v : Word) : (setPc v s).rf.f = s.rf.f := rfl
@[simp] theorem setPc_rf_pc (v : Word) : (setPc v s).rf.pc = v := rfl
@[simp] theorem setPc_rf_sp (v : Word) : (setPc v s).rf.sp = s.rf.sp := rfl
@[simp] theorem setPc_bus (v : Word) : (setPc v s).bus = s.bus := rfl
@[simp] theorem setPc_ime (v : Word) : (setPc v s).ime = s.ime := rfl
@[simp] theorem setPc_halted (v : Word) : (setPc v s).halted = s.halted := rfl
@[simp] theorem setPc_seq (v : Word) : (setPc v s).seq = s.seq := rfl
@[simp] theorem setPc_cycles (v : Word) : (setPc v s).cycles = s.cycles := rfl
@[simp] theorem setPc_events (v : Word) : (setPc v s).events = s.events := rfl

@[simp] theorem setSp_rf_a (v : Word) : (setSp v s).rf.a = s.rf.a := rfl
@[simp] theorem setSp_rf_b (v : Word) : (setSp v s).rf.b = s.rf.b := rfl
@[simp] theorem setSp_rf_c (v : Word) : (setSp v s).rf.c = s.rf.c := rfl
@[simp] theorem setSp_rf_d (v : Word) : (setSp v s).rf.d = s.rf.d := rfl
@[simp] theorem setSp_rf_e (v : Word) : (setSp v s).rf.e = s.rf.e := rfl
@[simp] theorem setSp_rf_h (v : Word) : (setSp v s).rf.h = s.rf.h := rfl
@[simp] theorem setSp_rf_l (v : Word) : (setSp v s).rf.l = s.rf.l := rfl
@[simp] theorem setSp_rf_f (v : Word) : (setSp v s).rf.f = s.rf.f := rfl
@[simp] theorem setSp_rf_pc (v : Word) : (setSp v s).rf.pc = s.rf.pc := rfl
@[simp] theorem setSp_rf_sp (v : Word) : (setSp v s).rf.sp = v := rfl
@[simp] theorem setSp_bus (v : Word) : (setSp v s).bus = s.bus := rfl
@[simp] theorem setSp_ime (v : Word) : (setSp v s).ime = s.ime := rfl
@[simp] theorem setSp_halted (v : Word) : (setSp v s).halted = s.halted := rfl
@[simp] theorem setSp_seq (v : Word) : (setSp v s).seq = s.seq := rfl
@[simp] theorem setSp_cycles (v : Word) : (setSp v s).cycles = s.cycles := rfl
@[simp] theorem setSp_events (v : Word) : (setSp v s).events = s.events := rfl

@[simp] theorem setIme_rf_a (v : Bool) : (setIme v s).rf.a = s.rf.a := rfl
@[simp] theorem setIme_rf_b (v : Bool) : (setIme v s).rf.b = s.rf.b := rfl
@[simp] theorem setIme_rf_c (v : Bool) : (setIme v s).rf.c = s.rf.c := rfl
@[simp] theorem setIme_rf_d (v : Bool) : (setIme v s).rf.d = s.rf.d := rfl
@[simp] theorem setIme_rf_e (v : Bool) : (setIme v s).rf.e = s.rf.e := rfl
@[simp] theorem setIme_rf_h (v : Bool) : (setIme v s).rf.h = s.rf.h := rfl
@[simp] theorem setIme_rf_l (v : Bool) : (setIme v s).rf.l = s.rf.l := rfl
@[simp] theorem setIme_rf_f (v : Bool) : (setIme v s).rf.f = s.rf.f := rfl
@[simp] theorem setIme_rf_pc (v : Bool) : (setIme v s).rf.pc = s.rf.pc := rfl
@[simp] theorem setIme_rf_sp (v : Bool) : (setIme v s).rf.sp = s.rf.sp := rfl
@[simp] theorem setIme_rf (v : Bool) : (setIme v s).rf = s.rf := rfl
@[simp] theorem setIme_bus (v : Bool) : (setIme v s).bus = s.bus := rfl
@[simp] theorem setIme_ime (v : Bool) : (setIme v s).ime = v := rfl
@[simp] theorem setIme_halted (v : Bool) : (setIme v s).halted = s.halted := rfl
@[simp] theorem setIme_seq (v : Bool) : (setIme v s).seq = s.seq := rfl
@[simp] theorem setIme_cycles (v : Bool) : (setIme v s).cycles = s.cycles := rfl
@[simp] theorem setIme_events (v : Bool) : (setIme v s).events = s.events := rfl

@[simp] theorem halt_rf_a : (halt s).rf.a = s.rf.a := rfl
@[simp] theorem halt_rf_b : (halt s).rf.b = s.rf.b := rfl
@[simp] theorem halt_rf_c : (halt s).rf.c = s.rf.c := rfl
@[simp] theorem halt_rf_d : (halt s).rf.d = s.rf.d := rfl
@[simp] theorem halt_rf_e : (halt s).rf.e = s.rf.e := rfl
@[simp] theorem halt_rf_h : (halt s).rf.h = s.rf.h := rfl
@[simp] theorem halt_rf_l : (halt s).rf.l = s.rf.l := rfl
@[simp] theorem halt_rf_f : (halt s).rf.f = s.rf.f := rfl
@[simp] theorem halt_rf_pc : (halt s).rf.pc = s.rf.pc := rfl
@[simp] theorem halt_rf_sp : (halt s).rf.sp = s.rf.sp := rfl
@[simp] theorem halt_rf : (halt s).rf = s.rf := rfl
@[simp] theorem halt_bus : (halt s).bus = s.bus := rfl
@[simp] theorem halt_ime : (halt s).ime = s.ime := rfl
@[simp] theorem halt_halted : (halt s).halted = true := rfl
@[simp] theorem halt_seq : (halt s).seq = s.seq := rfl
@[simp] theorem halt_cycles : (halt s).cycles = s.cycles := rfl
@[simp] theorem halt_events : (halt s).events = s.events := rfl

@[simp] theorem setSeq_rf_a (q : SeqState) : (setSeq q s).rf.a = s.rf.a := rfl
@[simp] theorem setSeq_rf_b (q : SeqState) : (setSeq q s).rf.b = s.rf.b := rfl
@[simp] theorem setSeq_rf_c (q : SeqState) : (setSeq q s).rf.c = s.rf.c := rfl
@[simp] theorem setSeq_rf_d (q : SeqState) : (setSeq q s).rf.d = s.rf.d := rfl
@[simp] theorem setSeq_rf_e (q : SeqState) : (setSeq q s).rf.e = s.rf.e := rfl
@[simp] theorem setSeq_rf_h (q : SeqState) : (setSeq q s).rf.h = s.rf.h := rfl
@[simp] theorem setSeq_rf_l (q : SeqState) : (setSeq q s).rf.l = s.rf.l := rfl
@[simp] theorem setSeq_rf_f (q : SeqState) : (setSeq q s).rf.f = s.rf.f := rfl
@[simp] theorem setSeq_rf_pc (q : SeqState) : (setSeq q s).rf.pc = s.rf.pc := rfl
@[simp] theorem setSeq_rf_sp (q : SeqState) : (setSeq q s).rf.sp = s.rf.sp := rfl
@[simp] theorem setSeq_rf (q : SeqState) : (setSeq q s).rf = s.rf := rfl
@[simp] theorem setSeq_bus (q : SeqState) : (setSeq q s).bus = s.bus := rfl
@[simp] theorem setSeq_ime (q : SeqState) : (setSeq q s).ime = s.ime := rfl
@[simp] theorem setSeq_halted (q : SeqState) : (setSeq q s).halted = s.halted := rfl
@[simp] theorem setSeq_seq (q : SeqState) : (setSeq q s).seq = q := rfl
@[simp] theorem setSeq_cycles (q : SeqState) : (setSeq q s).cycles = s.cycles := rfl
@[simp] theorem setSeq_events (q : SeqState) : (setSeq q s).events = s.events := rfl

@[simp] theorem emit_rf_a (e : Event) : (emit e s).rf.a = s.rf.a := rfl
@[simp] theorem emit_rf_b (e : Event) : (emit e s).rf.b = s.rf.b := rfl
@[simp] theorem emit_rf_c (e : Event) : (emit e s).rf.c = s.rf.c := rfl
@[simp] theorem emit_rf_d (e : Event) : (emit e s).rf.d = s.rf.d := rfl
@[simp] theorem emit_rf_e (e : Event) : (emit e s).rf.e = s.rf.e := rfl
@[simp] theorem emit_rf_h (e : Event) : (emit e s).rf.h = s.rf.h := rfl
@[simp] theorem emit_rf_l (e : Event) : (emit e s).rf.l = s.rf.l := rfl
@[simp] theorem emit_rf_f (e : Event) : (emit e s).rf.f = s.rf.f := rfl
@[simp] theorem emit_rf_pc (e : Event) : (emit e s).rf.pc = s.rf.pc := rfl
@[simp] theorem emit_rf_sp (e : Event) : (emit e s).rf.sp = s.rf.sp := rfl
@[simp] theorem emit_rf (e : Event) : (emit e s).rf = s.rf := rfl
@[simp] theorem emit_bus (e : Event) : (emit e s).bus = s.bus := rfl
@[simp] theorem emit_ime (e : Event) : (emit e s).ime = s.ime := rfl
@[simp] theorem emit_halted (e : Event) : (emit e s).halted = s.halted := rfl
@[simp] theorem emit_seq (e : Event) : (emit e s).seq = s.seq := rfl
@[simp] theorem emit_cycles (e : Event) : (emit e s).cycles = s.cycles := rfl
@[simp] theorem emit_events (e : Event) : (emit e s).events = s.events ++ [e] := rfl

@[simp] theorem charge_rf_a (n : Nat) : (charge n s).rf.a = s.rf.a := rfl
@[simp] theorem charge_rf_b (n : Nat) : (charge n s).rf.b = s.rf.b := rfl
@[simp] theorem charge_rf_c (n : Nat) : (charge n s).rf.c = s.rf.c := rfl
@[simp] theorem charge_rf_d (n : Nat) : (charge n s).rf.d = s.rf.d := rfl
@[simp] theorem charge_rf_e (n : Nat) : (charge n s).rf.e = s.rf.e := rfl
@[simp] theorem charge_rf_h (n : Nat) : (charge n s).rf.h = s.rf.h := rfl
@[simp] theorem charge_rf_l (n : Nat) : (charge n s).rf.l = s.rf.l := rfl
@[simp] theorem charge_rf_f (n : Nat) : (charge n s).rf.f = s.rf.f := rfl
@[simp] theorem charge_rf_pc (n : Nat) : (charge n s).rf.pc = s.rf.pc := rfl
@[simp] theorem charge_rf_sp (n : Nat) : (charge n s).rf.sp = s.rf.sp := rfl
@[simp] theorem charge_rf (n : Nat) : (charge n s).rf = s.rf := rfl
@[simp] theorem charge_bus (n : Nat) : (charge n s).bus = s.bus := rfl
@[simp] theorem charge_ime (n : Nat) : (charge n s).ime = s.ime := rfl
@[simp] theorem charge_halted (n : Nat) : (charge n s).halted = s.halted := rfl
@[simp] theorem charge_seq (n : Nat) : (charge n s).seq = s.seq := rfl
@[simp] theorem charge_cycles (n : Nat) : (charge n s).cycles = s.cycles + n := rfl
@[simp] theorem charge_events (n : Nat) : (charge n s).events = s.events := rfl

@[simp] theorem writeReg_bus (r : Reg8) (v : Byte) : (writeReg r v s).bus = s.bus := rfl
@[simp] theorem writeReg_ime (r : Reg8) (v : Byte) : (writeReg r v s).ime = s.ime := rfl
@[simp] theorem writeReg_halted (r : Reg8) (v : Byte) : (writeReg r v s).halted = s.halted := rfl
@[simp] theorem writeReg_seq (r : Reg8) (v : Byte) : (writeReg r v s).seq = s.seq := rfl
@[simp] theorem writeReg_cycles (r : Reg8) (v : Byte) : (writeReg r v s).cycles = s.cycles := rfl
@[simp] theorem writeReg_events (r : Reg8) (v : Byte) : (writeReg r v s).events = s.events := rfl

@[simp] theorem writePair_bus (p : Pair) (v : Word) : (writePair p v s).bus = s.bus := rfl
@[simp] theorem writePair_ime (p : Pair) (v : Word) : (writePair p v s).ime = s.ime := rfl
@[simp] theorem writePair_halted (p : Pair) (v : Word) : (writePair p v s).halted = s.halted := rfl
@[simp] theorem writePair_seq (p : Pair) (v : Word) : (writePair p v s).seq = s.seq := rfl
@[simp] theorem writePair_cycles (p : Pair) (v : Word) : (writePair p v s).cycles = s.cycles := rfl
@[simp] theorem writePair_events (p : Pair) (v : Word) : (writePair p v s).events = s.events := rfl

@[simp] theorem readByte_snd_rf_a (a : Word) : ((readByte a s).2).rf.a = s.rf.a := rfl
@[simp] theorem readByte_snd_rf_b (a : Word) : ((readByte a s).2).rf.b = s.rf.b := rfl
@[simp] theorem readByte_snd_rf_c (a : Word) : ((readByte a s).2).rf.c = s.rf.c := rfl
@[simp] theorem readByte_snd_rf_d (a : Word) : ((readByte a s).2).rf.d = s.rf.d := rfl
@[simp] theorem readByte_snd_rf_e (a : Word) : ((readByte a s).2).rf.e = s.rf.e := rfl
@[simp] theorem readByte_snd_rf_h (a : Word) : ((readByte a s).2).rf.h = s.rf.h := rfl
@[simp] theorem readByte_snd_rf_l (a : Word) : ((readByte a s).2).rf.l = s.rf.l := rfl
@[simp] theorem readByte_snd_rf_f (a : Word) : ((readByte a s).2).rf.f = s.rf.f := rfl
@[simp] theorem readByte_snd_rf_pc (a : Word) : ((readByte a s).2).rf.pc = s.rf.pc := rfl
@[simp] theorem readByte_snd_rf_sp (a : Word) : ((readByte a s).2).rf.sp = s.rf.sp := rfl
@[simp] theorem readByte_snd_rf (a : Word) : ((readByte a s).2).rf = s.rf := rfl
@[simp] theorem readByte_snd_bus (a : Word) : ((readByte a s).2).bus = s.bus.touch a := rfl
@[simp] theorem readByte_snd_ime (a : Word) : ((readByte a s).2).ime = s.ime := rfl
@[simp] theorem readByte_snd_halted (a : Word) : ((readByte a s).2).halted = s.halted := rfl
@[simp] theorem readByte_snd_seq (a : Word) : ((readByte a s).2).seq = s.seq := rfl
@[simp] theorem readByte_snd_cycles (a : Word) : ((readByte a s).2).cycles = s.cycles := rfl
@[simp] theorem readByte_snd_events (a : Word) : ((readByte a s).2).events = s.events := rfl

@[simp] theorem readByte_fst (a : Word) : (readByte a s).1 = s.bus.peek a := rfl

@[simp] theorem writeReg_rf (r : Reg8) (v : Byte) : (writeReg r v s).rf = s.rf.set r v := rfl
@[simp] theorem writePair_rf (p : Pair) (v : Word) : (writePair p v s).rf = s.rf.setPair p v := rfl

/-! The register file. -/

variable (rf : RegFile)

/-- A register read after a register write (R10). -/
theorem get_set (r q : Reg8) (v : Byte) : (rf.set r v).get q = if q = r then v else rf.get q := by
  cases r <;> cases q <;> rfl

@[simp] theorem get_set_same (r : Reg8) (v : Byte) : (rf.set r v).get r = v := by cases r <;> rfl
@[simp] theorem set_f (r : Reg8) (v : Byte) : (rf.set r v).f = rf.f := by cases r <;> rfl
@[simp] theorem set_pc (r : Reg8) (v : Byte) : (rf.set r v).pc = rf.pc := by cases r <;> rfl
@[simp] theorem set_sp (r : Reg8) (v : Byte) : (rf.set r v).sp = rf.sp := by cases r <;> rfl
@[simp] theorem setPair_pc (p : Pair) (v : Word) : (rf.setPair p v).pc = rf.pc := by cases p <;> rfl
@[simp] theorem setPair_sp (p : Pair) (v : Word) : (rf.setPair p v).sp = rf.sp := by cases p <;> rfl

/-- A pair write other than of AF leaves the flags (R29). -/
theorem setPair_f (p : Pair) (v : Word) (h : p ≠ .af) : (rf.setPair p v).f = rf.f := by
  cases p <;> first | rfl | exact absurd rfl h

end Sys2Proof.Machine
end

