-- ==== Sys2Proof/Laws/Ops.lean ====
section
/-! SUPPORT. One lemma per shared operation that says what it can do. Evolves is what every operation of the machine keeps:
the configuration, a cleared latch, a halted block, the events already reported, and the canonical RAM. -/
namespace Sys2Proof.Machine

/-- How any operation of a step may move the state: configuration constant (R38), latch one-way (R66), halted never cleared
(R36), cycles never lowered (R40), events only appended (R54), RAM canonical. -/
structure Evolves (s t : State) : Prop where
  cfg : t.bus.cfg = s.bus.cfg
  latch : t.bus.biosOverlay = true → s.bus.biosOverlay = true
  halted : s.halted = true → t.halted = true
  cycles : s.cycles ≤ t.cycles
  events : s.events <+: t.events
  ram : Memory.wf s.bus.ram = true → Memory.wf t.bus.ram = true

theorem evolves_refl (s : State) : Evolves s s :=
  ⟨rfl, id, id, le_refl _, List.prefix_refl _, id⟩

theorem evolves_trans {s t u : State} (h : Evolves s t) (k : Evolves t u) : Evolves s u :=
  ⟨k.cfg.trans h.cfg, fun x => h.latch (k.latch x), fun x => k.halted (h.halted x), h.cycles.trans k.cycles,
    h.events.trans k.events, fun x => k.ram (h.ram x)⟩

variable (s : State)

theorem evolves_setFlags (f : Flags) : Evolves s (setFlags f s) := ⟨rfl, id, id, le_refl _, List.prefix_refl _, id⟩
theorem evolves_setPc (v : Word) : Evolves s (setPc v s) := ⟨rfl, id, id, le_refl _, List.prefix_refl _, id⟩
theorem evolves_setSp (v : Word) : Evolves s (setSp v s) := ⟨rfl, id, id, le_refl _, List.prefix_refl _, id⟩
theorem evolves_setIme (v : Bool) : Evolves s (setIme v s) := ⟨rfl, id, id, le_refl _, List.prefix_refl _, id⟩
theorem evolves_setSeq (q : SeqState) : Evolves s (setSeq q s) := ⟨rfl, id, id, le_refl _, List.prefix_refl _, id⟩
theorem evolves_halt : Evolves s (halt s) := ⟨rfl, id, fun _ => rfl, le_refl _, List.prefix_refl _, id⟩
theorem evolves_charge (n : Nat) : Evolves s (charge n s) :=
  ⟨rfl, id, id, Nat.le_add_right _ _, List.prefix_refl _, id⟩
theorem evolves_emit (e : Event) : Evolves s (emit e s) :=
  ⟨rfl, id, id, le_refl _, List.prefix_append _ _, id⟩
theorem evolves_writeReg (r : Reg8) (v : Byte) : Evolves s (writeReg r v s) :=
  ⟨rfl, id, id, le_refl _, List.prefix_refl _, id⟩
theorem evolves_writePair (p : Pair) (v : Word) : Evolves s (writePair p v s) :=
  ⟨rfl, id, id, le_refl _, List.prefix_refl _, id⟩

/-! Bus reads: the byte is the bus's, and only the latch may change (R62, R66). -/

theorem evolves_readByte (a : Word) : Evolves s (readByte a s).2 :=
  ⟨touch_cfg _ _, touch_biosOverlay_le _ _, id, le_refl _, List.prefix_refl _, fun h => by simpa using h⟩

/-! Byte writes (R63, R67): reported and discarded where the BIOS overlays, else left to the region. -/

theorem writeByte_overlaid {a : Word} (v : Byte) {s : State} (h : s.bus.overlaid a = true) :
    writeByte a v s = emit (.romWriteRejected a v) s := if_pos h

theorem writeByte_stored {a : Word} (v : Byte) {s : State} (h : s.bus.overlaid a = false) :
    writeByte a v s = { s with bus := s.bus.store a v } := if_neg (by simp [h])

/-- Everything a byte write can do. -/
theorem writeByte_cases (a : Word) (v : Byte) :
    (s.bus.overlaid a = true ∧ writeByte a v s = emit (.romWriteRejected a v) s) ∨
      (s.bus.overlaid a = false ∧ writeByte a v s = { s with bus := s.bus.store a v }) := by
  cases h : s.bus.overlaid a
  · exact .inr ⟨rfl, writeByte_stored v h⟩
  · exact .inl ⟨rfl, writeByte_overlaid v h⟩

/-- The bus after a byte write, reported or not, is the bus with the byte stored where there is a store. -/
@[simp] theorem writeByte_bus (a : Word) (v : Byte) : (writeByte a v s).bus = s.bus.store a v := by
  rcases writeByte_cases s a v with ⟨h, e⟩ | ⟨h, e⟩ <;> rw [e]
  rw [store_of_ramKey_none _ _ _ (ramKey_overlaid h)]
  rfl

@[simp] theorem writeByte_rf (a : Word) (v : Byte) : (writeByte a v s).rf = s.rf := by
  unfold writeByte; split <;> rfl
@[simp] theorem writeByte_ime (a : Word) (v : Byte) : (writeByte a v s).ime = s.ime := by
  unfold writeByte; split <;> rfl
@[simp] theorem writeByte_halted (a : Word) (v : Byte) : (writeByte a v s).halted = s.halted := by
  unfold writeByte; split <;> rfl
@[simp] theorem writeByte_seq (a : Word) (v : Byte) : (writeByte a v s).seq = s.seq := by
  unfold writeByte; split <;> rfl
@[simp] theorem writeByte_cycles (a : Word) (v : Byte) : (writeByte a v s).cycles = s.cycles := by
  unfold writeByte; split <;> rfl

/-- The events after a byte write (R67). -/
theorem writeByte_events (a : Word) (v : Byte) :
    (writeByte a v s).events = if s.bus.overlaid a then s.events ++ [.romWriteRejected a v] else s.events := by
  rcases writeByte_cases s a v with ⟨h, e⟩ | ⟨h, e⟩ <;> rw [e] <;> simp [h, emit]

theorem evolves_writeByte (a : Word) (v : Byte) : Evolves s (writeByte a v s) := by
  rcases writeByte_cases s a v with ⟨-, e⟩ | ⟨-, e⟩ <;> rw [e]
  · exact evolves_emit s _
  · exact ⟨store_cfg _ _ _, fun h => by simpa using h, id, le_refl _, List.prefix_refl _, store_wf _ _ _⟩

/-! Word accesses (R75, R76), fetch (R12, R131) and the stack (R177). -/

theorem readWord_eq (a : Word) :
    readWord a s = (mkWord ((s.bus.touch a).peek (a + 1)) (s.bus.peek a),
      { s with bus := (s.bus.touch a).touch (a + 1) }) := rfl

theorem evolves_readWord (a : Word) : Evolves s (readWord a s).2 :=
  evolves_trans (evolves_readByte s a) (evolves_readByte _ (a + 1))

theorem evolves_writeWord (a v : Word) : Evolves s (writeWord a v s) :=
  evolves_trans (evolves_writeByte s a _) (evolves_writeByte _ _ _)

@[simp] theorem writeWord_rf (a v : Word) : (writeWord a v s).rf = s.rf := by simp [writeWord]
@[simp] theorem writeWord_ime (a v : Word) : (writeWord a v s).ime = s.ime := by simp [writeWord]
@[simp] theorem writeWord_halted (a v : Word) : (writeWord a v s).halted = s.halted := by simp [writeWord]
@[simp] theorem writeWord_seq (a v : Word) : (writeWord a v s).seq = s.seq := by simp [writeWord]
@[simp] theorem writeWord_cycles (a v : Word) : (writeWord a v s).cycles = s.cycles := by simp [writeWord]
@[simp] theorem writeWord_bus (a v : Word) :
    (writeWord a v s).bus = (s.bus.store a (loByte v)).store (a + 1) (hiByte v) := by simp [writeWord]

theorem fetch8_eq : fetch8 s = (s.bus.peek s.rf.pc,
    { s with rf := { s.rf with pc := s.rf.pc + 1 }, bus := s.bus.touch s.rf.pc }) := rfl

theorem evolves_fetch8 : Evolves s (fetch8 s).2 := evolves_trans (evolves_readByte s s.rf.pc) (evolves_setPc _ _)

theorem evolves_fetch16 : Evolves s (fetch16 s).2 := evolves_trans (evolves_fetch8 s) (evolves_fetch8 _)

theorem push16_eq (v : Word) : push16 v s = writeWord (s.rf.sp - 2) v (setSp (s.rf.sp - 2) s) := rfl

theorem evolves_push16 (v : Word) : Evolves s (push16 v s) :=
  evolves_trans (evolves_setSp s _) (evolves_writeWord _ _ _)

@[simp] theorem push16_rf (v : Word) : (push16 v s).rf = { s.rf with sp := s.rf.sp - 2 } := by simp [push16_eq, setSp]
@[simp] theorem push16_ime (v : Word) : (push16 v s).ime = s.ime := by simp [push16_eq]
@[simp] theorem push16_halted (v : Word) : (push16 v s).halted = s.halted := by simp [push16_eq]
@[simp] theorem push16_seq (v : Word) : (push16 v s).seq = s.seq := by simp [push16_eq]
@[simp] theorem push16_cycles (v : Word) : (push16 v s).cycles = s.cycles := by simp [push16_eq]

theorem pop16_eq : pop16 s = ((readWord s.rf.sp s).1, setSp (s.rf.sp + 2) (readWord s.rf.sp s).2) := rfl

theorem evolves_pop16 : Evolves s (pop16 s).2 := evolves_trans (evolves_readWord s s.rf.sp) (evolves_setSp _ _)

/-! The register file's bit operations (R30, R31). -/

theorem regBitOp_valid (op : Byte → Nat → Byte) (r : Reg8) {b : Int} (h : validBitIndex b = true) :
    regBitOp op r b s = writeReg r (op (readReg r s) b.toNat) s := if_pos h

theorem regBitOp_invalid (op : Byte → Nat → Byte) (r : Reg8) {b : Int} (h : validBitIndex b = false) :
    regBitOp op r b s = emit (.invalidBitIndex r b) s := if_neg (by simp [h])

theorem evolves_regBitOp (op : Byte → Nat → Byte) (r : Reg8) (b : Int) : Evolves s (regBitOp op r b s) := by
  cases h : validBitIndex b
  · rw [regBitOp_invalid s op r h]; exact evolves_emit s _
  · rw [regBitOp_valid s op r h]; exact evolves_writeReg s _ _

/-! The r8 and rp operands (R104, R105, R144). -/

/-- Everything reading an r8 operand can do: a register, or the byte at HL with the latch updated. -/
theorem readR8_cases (o : R8) :
    (∃ r, r8Reg o = some r ∧ readR8 o s = (readReg r s, s)) ∨
      (o = .hl ∧ readR8 o s = readByte (readPair .hl s) s) := by
  cases o <;> first | exact .inr ⟨rfl, rfl⟩ | exact .inl ⟨_, rfl, rfl⟩

theorem evolves_readR8 (o : R8) : Evolves s (readR8 o s).2 := by
  rcases readR8_cases s o with ⟨r, -, e⟩ | ⟨-, e⟩ <;> rw [e]
  · exact evolves_refl s
  · exact evolves_readByte s _

@[simp] theorem readR8_rf (o : R8) : (readR8 o s).2.rf = s.rf := by cases o <;> rfl
@[simp] theorem readR8_ime (o : R8) : (readR8 o s).2.ime = s.ime := by cases o <;> rfl
@[simp] theorem readR8_halted (o : R8) : (readR8 o s).2.halted = s.halted := by cases o <;> rfl
@[simp] theorem readR8_seq (o : R8) : (readR8 o s).2.seq = s.seq := by cases o <;> rfl
@[simp] theorem readR8_cycles (o : R8) : (readR8 o s).2.cycles = s.cycles := by cases o <;> rfl
@[simp] theorem readR8_events (o : R8) : (readR8 o s).2.events = s.events := by cases o <;> rfl

theorem evolves_writeR8 (o : R8) (v : Byte) : Evolves s (writeR8 o v s) := by
  cases o <;> first | exact evolves_writeByte s _ _ | exact evolves_writeReg s _ _

theorem evolves_writeRp (p : Rp) (v : Word) : Evolves s (writeRp p v s) := by
  cases p <;> first | exact evolves_setSp s _ | exact evolves_writePair s _ _

end Sys2Proof.Machine
end

