-- ==== Sys2Proof/Tests/Slice0.lean ====
section
/-! SUPPORT. Our tests: well-formedness, every entry's decoding by a written word, one-step results from the spec's vectors
(95_test_vectors), and a witness for every statement with hypotheses. -/
namespace Sys2Proof.Tests
open Sys2Proof.Machine

/-! Well-formedness. -/

/-- The one check refuses a byte that is no undefined opcode (R111). -/
theorem test_wellFormed_refuses : (Instr.undefined 0x00#8).wellFormed = false := by decide

theorem test_wellFormed_accepts :
    (Instr.undefined 0xFD#8).wellFormed = true ∧ (Instr.bit7MemHl).wellFormed = true := by decide

/-! Decoding: one written word for every entry, from the maps of R109 and R110. -/

/-- Whether each word decodes whole to its instruction. -/
def decodesTo (words : List (List Byte × Instr)) : Bool :=
  words.all fun w => decide (decode w.1 = .ok (w.2, []))

theorem test_decode_primary_0 :
  decodesTo [
    ([0x00#8], .nop), ([0x01#8, 0x34#8, 0x12#8], .ldBcD16 0x1234#16), ([0x02#8], .ldMemBcA), ([0x03#8], .incBc),
    ([0x04#8], .incB), ([0x05#8], .decB), ([0x06#8, 0x5A#8], .ldBD8 0x5A#8), ([0x07#8], .rlca),
    ([0x08#8, 0x34#8, 0x12#8], .ldMemA16Sp 0x1234#16), ([0x09#8], .addHlBc), ([0x0A#8], .ldAMemBc), ([0x0B#8], .decBc),
    ([0x0C#8], .incC), ([0x0D#8], .decC), ([0x0E#8, 0x5A#8], .ldCD8 0x5A#8), ([0x0F#8], .rrca)] = true := by
  decide

theorem test_decode_primary_1 :
  decodesTo [
    ([0x10#8, 0x5A#8], .stop 0x5A#8), ([0x11#8, 0x34#8, 0x12#8], .ldDeD16 0x1234#16), ([0x12#8], .ldMemDeA),
    ([0x13#8], .incDe), ([0x14#8], .incD), ([0x15#8], .decD), ([0x16#8, 0x5A#8], .ldDD8 0x5A#8), ([0x17#8], .rla),
    ([0x18#8, 0x5A#8], .jr 0x5A#8), ([0x19#8], .addHlDe), ([0x1A#8], .ldAMemDe), ([0x1B#8], .decDe), ([0x1C#8], .incE),
    ([0x1D#8], .decE), ([0x1E#8, 0x5A#8], .ldED8 0x5A#8), ([0x1F#8], .rra)] = true := by
  decide

theorem test_decode_primary_2 :
  decodesTo [
    ([0x20#8, 0x5A#8], .jrNz 0x5A#8), ([0x21#8, 0x34#8, 0x12#8], .ldHlD16 0x1234#16), ([0x22#8], .ldMemHlIncA),
    ([0x23#8], .incHl), ([0x24#8], .incH), ([0x25#8], .decH), ([0x26#8, 0x5A#8], .ldHD8 0x5A#8), ([0x27#8], .daa),
    ([0x28#8, 0x5A#8], .jrZ 0x5A#8), ([0x29#8], .addHlHl), ([0x2A#8], .ldAMemHlInc), ([0x2B#8], .decHl), ([0x2C#8], .incL),
    ([0x2D#8], .decL), ([0x2E#8, 0x5A#8], .ldLD8 0x5A#8), ([0x2F#8], .cpl)] = true := by
  decide

theorem test_decode_primary_3 :
  decodesTo [
    ([0x30#8, 0x5A#8], .jrNc 0x5A#8), ([0x31#8, 0x34#8, 0x12#8], .ldSpD16 0x1234#16), ([0x32#8], .ldMemHlDecA),
    ([0x33#8], .incSp), ([0x34#8], .incMemHl), ([0x35#8], .decMemHl), ([0x36#8, 0x5A#8], .ldMemHlD8 0x5A#8),
    ([0x37#8], .scf), ([0x38#8, 0x5A#8], .jrC 0x5A#8), ([0x39#8], .addHlSp), ([0x3A#8], .ldAMemHlDec), ([0x3B#8], .decSp),
    ([0x3C#8], .incA), ([0x3D#8], .decA), ([0x3E#8, 0x5A#8], .ldAD8 0x5A#8), ([0x3F#8], .ccf)] = true := by
  decide

theorem test_decode_primary_4 :
  decodesTo [
    ([0x40#8], .ldBB), ([0x41#8], .ldBC), ([0x42#8], .ldBD), ([0x43#8], .ldBE), ([0x44#8], .ldBH), ([0x45#8], .ldBL),
    ([0x46#8], .ldBMemHl), ([0x47#8], .ldBA), ([0x48#8], .ldCB), ([0x49#8], .ldCC), ([0x4A#8], .ldCD), ([0x4B#8], .ldCE),
    ([0x4C#8], .ldCH), ([0x4D#8], .ldCL), ([0x4E#8], .ldCMemHl), ([0x4F#8], .ldCA)] = true := by
  decide

theorem test_decode_primary_5 :
  decodesTo [
    ([0x50#8], .ldDB), ([0x51#8], .ldDC), ([0x52#8], .ldDD), ([0x53#8], .ldDE), ([0x54#8], .ldDH), ([0x55#8], .ldDL),
    ([0x56#8], .ldDMemHl), ([0x57#8], .ldDA), ([0x58#8], .ldEB), ([0x59#8], .ldEC), ([0x5A#8], .ldED), ([0x5B#8], .ldEE),
    ([0x5C#8], .ldEH), ([0x5D#8], .ldEL), ([0x5E#8], .ldEMemHl), ([0x5F#8], .ldEA)] = true := by
  decide

theorem test_decode_primary_6 :
  decodesTo [
    ([0x60#8], .ldHB), ([0x61#8], .ldHC), ([0x62#8], .ldHD), ([0x63#8], .ldHE), ([0x64#8], .ldHH), ([0x65#8], .ldHL),
    ([0x66#8], .ldHMemHl), ([0x67#8], .ldHA), ([0x68#8], .ldLB), ([0x69#8], .ldLC), ([0x6A#8], .ldLD), ([0x6B#8], .ldLE),
    ([0x6C#8], .ldLH), ([0x6D#8], .ldLL), ([0x6E#8], .ldLMemHl), ([0x6F#8], .ldLA)] = true := by
  decide

theorem test_decode_primary_7 :
  decodesTo [
    ([0x70#8], .ldMemHlB), ([0x71#8], .ldMemHlC), ([0x72#8], .ldMemHlD), ([0x73#8], .ldMemHlE), ([0x74#8], .ldMemHlH),
    ([0x75#8], .ldMemHlL), ([0x76#8], .halt), ([0x77#8], .ldMemHlA), ([0x78#8], .ldAB), ([0x79#8], .ldAC), ([0x7A#8], .ldAD),
    ([0x7B#8], .ldAE), ([0x7C#8], .ldAH), ([0x7D#8], .ldAL), ([0x7E#8], .ldAMemHl), ([0x7F#8], .ldAA)] = true := by
  decide

theorem test_decode_primary_8 :
  decodesTo [
    ([0x80#8], .addAB), ([0x81#8], .addAC), ([0x82#8], .addAD), ([0x83#8], .addAE), ([0x84#8], .addAH), ([0x85#8], .addAL),
    ([0x86#8], .addAMemHl), ([0x87#8], .addAA), ([0x88#8], .adcAB), ([0x89#8], .adcAC), ([0x8A#8], .adcAD),
    ([0x8B#8], .adcAE), ([0x8C#8], .adcAH), ([0x8D#8], .adcAL), ([0x8E#8], .adcAMemHl), ([0x8F#8], .adcAA)] = true := by
  decide

theorem test_decode_primary_9 :
  decodesTo [
    ([0x90#8], .subB), ([0x91#8], .subC), ([0x92#8], .subD), ([0x93#8], .subE), ([0x94#8], .subH), ([0x95#8], .subL),
    ([0x96#8], .subMemHl), ([0x97#8], .subA), ([0x98#8], .sbcAB), ([0x99#8], .sbcAC), ([0x9A#8], .sbcAD), ([0x9B#8], .sbcAE),
    ([0x9C#8], .sbcAH), ([0x9D#8], .sbcAL), ([0x9E#8], .sbcAMemHl), ([0x9F#8], .sbcAA)] = true := by
  decide

theorem test_decode_primary_A :
  decodesTo [
    ([0xA0#8], .andB), ([0xA1#8], .andC), ([0xA2#8], .andD), ([0xA3#8], .andE), ([0xA4#8], .andH), ([0xA5#8], .andL),
    ([0xA6#8], .andMemHl), ([0xA7#8], .andA), ([0xA8#8], .xorB), ([0xA9#8], .xorC), ([0xAA#8], .xorD), ([0xAB#8], .xorE),
    ([0xAC#8], .xorH), ([0xAD#8], .xorL), ([0xAE#8], .xorMemHl), ([0xAF#8], .xorA)] = true := by
  decide

theorem test_decode_primary_B :
  decodesTo [
    ([0xB0#8], .orB), ([0xB1#8], .orC), ([0xB2#8], .orD), ([0xB3#8], .orE), ([0xB4#8], .orH), ([0xB5#8], .orL),
    ([0xB6#8], .orMemHl), ([0xB7#8], .orA), ([0xB8#8], .cpB), ([0xB9#8], .cpC), ([0xBA#8], .cpD), ([0xBB#8], .cpE),
    ([0xBC#8], .cpH), ([0xBD#8], .cpL), ([0xBE#8], .cpMemHl), ([0xBF#8], .cpA)] = true := by
  decide

theorem test_decode_primary_C :
  decodesTo [
    ([0xC0#8], .retNz), ([0xC1#8], .popBc), ([0xC2#8, 0x34#8, 0x12#8], .jpNz 0x1234#16),
    ([0xC3#8, 0x34#8, 0x12#8], .jp 0x1234#16), ([0xC4#8, 0x34#8, 0x12#8], .callNz 0x1234#16), ([0xC5#8], .pushBc),
    ([0xC6#8, 0x5A#8], .addAD8 0x5A#8), ([0xC7#8], .rst00), ([0xC8#8], .retZ), ([0xC9#8], .ret),
    ([0xCA#8, 0x34#8, 0x12#8], .jpZ 0x1234#16), ([0xCB#8], .prefixCb), ([0xCC#8, 0x34#8, 0x12#8], .callZ 0x1234#16),
    ([0xCD#8, 0x34#8, 0x12#8], .call 0x1234#16), ([0xCE#8, 0x5A#8], .adcAD8 0x5A#8), ([0xCF#8], .rst08)] = true := by
  decide

theorem test_decode_primary_D :
  decodesTo [
    ([0xD0#8], .retNc), ([0xD1#8], .popDe), ([0xD2#8, 0x34#8, 0x12#8], .jpNc 0x1234#16), ([0xD3#8], .undefined 0xD3#8),
    ([0xD4#8, 0x34#8, 0x12#8], .callNc 0x1234#16), ([0xD5#8], .pushDe), ([0xD6#8, 0x5A#8], .subD8 0x5A#8),
    ([0xD7#8], .rst10), ([0xD8#8], .retC), ([0xD9#8], .reti), ([0xDA#8, 0x34#8, 0x12#8], .jpC 0x1234#16),
    ([0xDB#8], .undefined 0xDB#8), ([0xDC#8, 0x34#8, 0x12#8], .callC 0x1234#16), ([0xDD#8], .undefined 0xDD#8),
    ([0xDE#8, 0x5A#8], .sbcAD8 0x5A#8), ([0xDF#8], .rst18)] = true := by
  decide

theorem test_decode_primary_E :
  decodesTo [
    ([0xE0#8, 0x5A#8], .ldhMemA8A 0x5A#8), ([0xE1#8], .popHl), ([0xE2#8], .ldMemCA), ([0xE3#8], .undefined 0xE3#8),
    ([0xE4#8], .undefined 0xE4#8), ([0xE5#8], .pushHl), ([0xE6#8, 0x5A#8], .andD8 0x5A#8), ([0xE7#8], .rst20),
    ([0xE8#8, 0x5A#8], .addSpE8 0x5A#8), ([0xE9#8], .jpHl), ([0xEA#8, 0x34#8, 0x12#8], .ldMemA16A 0x1234#16),
    ([0xEB#8], .undefined 0xEB#8), ([0xEC#8], .undefined 0xEC#8), ([0xED#8], .undefined 0xED#8),
    ([0xEE#8, 0x5A#8], .xorD8 0x5A#8), ([0xEF#8], .rst28)] = true := by
  decide

theorem test_decode_primary_F :
  decodesTo [
    ([0xF0#8, 0x5A#8], .ldhAMemA8 0x5A#8), ([0xF1#8], .popAf), ([0xF2#8], .ldAMemC), ([0xF3#8], .di),
    ([0xF4#8], .undefined 0xF4#8), ([0xF5#8], .pushAf), ([0xF6#8, 0x5A#8], .orD8 0x5A#8), ([0xF7#8], .rst30),
    ([0xF8#8, 0x5A#8], .ldHlSpE8 0x5A#8), ([0xF9#8], .ldSpHl), ([0xFA#8, 0x34#8, 0x12#8], .ldAMemA16 0x1234#16),
    ([0xFB#8], .ei), ([0xFC#8], .undefined 0xFC#8), ([0xFD#8], .undefined 0xFD#8), ([0xFE#8, 0x5A#8], .cpD8 0x5A#8),
    ([0xFF#8], .rst38)] = true := by
  decide

theorem test_decode_extended_0 :
  decodesTo [
    ([0xCB#8, 0x00#8], .rlcB), ([0xCB#8, 0x01#8], .rlcC), ([0xCB#8, 0x02#8], .rlcD), ([0xCB#8, 0x03#8], .rlcE),
    ([0xCB#8, 0x04#8], .rlcH), ([0xCB#8, 0x05#8], .rlcL), ([0xCB#8, 0x06#8], .rlcMemHl), ([0xCB#8, 0x07#8], .rlcA),
    ([0xCB#8, 0x08#8], .rrcB), ([0xCB#8, 0x09#8], .rrcC), ([0xCB#8, 0x0A#8], .rrcD), ([0xCB#8, 0x0B#8], .rrcE),
    ([0xCB#8, 0x0C#8], .rrcH), ([0xCB#8, 0x0D#8], .rrcL), ([0xCB#8, 0x0E#8], .rrcMemHl), ([0xCB#8, 0x0F#8], .rrcA)] = true := by
  decide

theorem test_decode_extended_1 :
  decodesTo [
    ([0xCB#8, 0x10#8], .rlB), ([0xCB#8, 0x11#8], .rlC), ([0xCB#8, 0x12#8], .rlD), ([0xCB#8, 0x13#8], .rlE),
    ([0xCB#8, 0x14#8], .rlH), ([0xCB#8, 0x15#8], .rlL), ([0xCB#8, 0x16#8], .rlMemHl), ([0xCB#8, 0x17#8], .rlA),
    ([0xCB#8, 0x18#8], .rrB), ([0xCB#8, 0x19#8], .rrC), ([0xCB#8, 0x1A#8], .rrD), ([0xCB#8, 0x1B#8], .rrE),
    ([0xCB#8, 0x1C#8], .rrH), ([0xCB#8, 0x1D#8], .rrL), ([0xCB#8, 0x1E#8], .rrMemHl), ([0xCB#8, 0x1F#8], .rrA)] = true := by
  decide

theorem test_decode_extended_2 :
  decodesTo [
    ([0xCB#8, 0x20#8], .slaB), ([0xCB#8, 0x21#8], .slaC), ([0xCB#8, 0x22#8], .slaD), ([0xCB#8, 0x23#8], .slaE),
    ([0xCB#8, 0x24#8], .slaH), ([0xCB#8, 0x25#8], .slaL), ([0xCB#8, 0x26#8], .slaMemHl), ([0xCB#8, 0x27#8], .slaA),
    ([0xCB#8, 0x28#8], .sraB), ([0xCB#8, 0x29#8], .sraC), ([0xCB#8, 0x2A#8], .sraD), ([0xCB#8, 0x2B#8], .sraE),
    ([0xCB#8, 0x2C#8], .sraH), ([0xCB#8, 0x2D#8], .sraL), ([0xCB#8, 0x2E#8], .sraMemHl), ([0xCB#8, 0x2F#8], .sraA)] = true := by
  decide

theorem test_decode_extended_3 :
  decodesTo [
    ([0xCB#8, 0x30#8], .swapB), ([0xCB#8, 0x31#8], .swapC), ([0xCB#8, 0x32#8], .swapD), ([0xCB#8, 0x33#8], .swapE),
    ([0xCB#8, 0x34#8], .swapH), ([0xCB#8, 0x35#8], .swapL), ([0xCB#8, 0x36#8], .swapMemHl), ([0xCB#8, 0x37#8], .swapA),
    ([0xCB#8, 0x38#8], .srlB), ([0xCB#8, 0x39#8], .srlC), ([0xCB#8, 0x3A#8], .srlD), ([0xCB#8, 0x3B#8], .srlE),
    ([0xCB#8, 0x3C#8], .srlH), ([0xCB#8, 0x3D#8], .srlL), ([0xCB#8, 0x3E#8], .srlMemHl), ([0xCB#8, 0x3F#8], .srlA)] = true := by
  decide

theorem test_decode_extended_4 :
  decodesTo [
    ([0xCB#8, 0x40#8], .bit0B), ([0xCB#8, 0x41#8], .bit0C), ([0xCB#8, 0x42#8], .bit0D), ([0xCB#8, 0x43#8], .bit0E),
    ([0xCB#8, 0x44#8], .bit0H), ([0xCB#8, 0x45#8], .bit0L), ([0xCB#8, 0x46#8], .bit0MemHl), ([0xCB#8, 0x47#8], .bit0A),
    ([0xCB#8, 0x48#8], .bit1B), ([0xCB#8, 0x49#8], .bit1C), ([0xCB#8, 0x4A#8], .bit1D), ([0xCB#8, 0x4B#8], .bit1E),
    ([0xCB#8, 0x4C#8], .bit1H), ([0xCB#8, 0x4D#8], .bit1L), ([0xCB#8, 0x4E#8], .bit1MemHl), ([0xCB#8, 0x4F#8], .bit1A)] = true := by
  decide

theorem test_decode_extended_5 :
  decodesTo [
    ([0xCB#8, 0x50#8], .bit2B), ([0xCB#8, 0x51#8], .bit2C), ([0xCB#8, 0x52#8], .bit2D), ([0xCB#8, 0x53#8], .bit2E),
    ([0xCB#8, 0x54#8], .bit2H), ([0xCB#8, 0x55#8], .bit2L), ([0xCB#8, 0x56#8], .bit2MemHl), ([0xCB#8, 0x57#8], .bit2A),
    ([0xCB#8, 0x58#8], .bit3B), ([0xCB#8, 0x59#8], .bit3C), ([0xCB#8, 0x5A#8], .bit3D), ([0xCB#8, 0x5B#8], .bit3E),
    ([0xCB#8, 0x5C#8], .bit3H), ([0xCB#8, 0x5D#8], .bit3L), ([0xCB#8, 0x5E#8], .bit3MemHl), ([0xCB#8, 0x5F#8], .bit3A)] = true := by
  decide

theorem test_decode_extended_6 :
  decodesTo [
    ([0xCB#8, 0x60#8], .bit4B), ([0xCB#8, 0x61#8], .bit4C), ([0xCB#8, 0x62#8], .bit4D), ([0xCB#8, 0x63#8], .bit4E),
    ([0xCB#8, 0x64#8], .bit4H), ([0xCB#8, 0x65#8], .bit4L), ([0xCB#8, 0x66#8], .bit4MemHl), ([0xCB#8, 0x67#8], .bit4A),
    ([0xCB#8, 0x68#8], .bit5B), ([0xCB#8, 0x69#8], .bit5C), ([0xCB#8, 0x6A#8], .bit5D), ([0xCB#8, 0x6B#8], .bit5E),
    ([0xCB#8, 0x6C#8], .bit5H), ([0xCB#8, 0x6D#8], .bit5L), ([0xCB#8, 0x6E#8], .bit5MemHl), ([0xCB#8, 0x6F#8], .bit5A)] = true := by
  decide

theorem test_decode_extended_7 :
  decodesTo [
    ([0xCB#8, 0x70#8], .bit6B), ([0xCB#8, 0x71#8], .bit6C), ([0xCB#8, 0x72#8], .bit6D), ([0xCB#8, 0x73#8], .bit6E),
    ([0xCB#8, 0x74#8], .bit6H), ([0xCB#8, 0x75#8], .bit6L), ([0xCB#8, 0x76#8], .bit6MemHl), ([0xCB#8, 0x77#8], .bit6A),
    ([0xCB#8, 0x78#8], .bit7B), ([0xCB#8, 0x79#8], .bit7C), ([0xCB#8, 0x7A#8], .bit7D), ([0xCB#8, 0x7B#8], .bit7E),
    ([0xCB#8, 0x7C#8], .bit7H), ([0xCB#8, 0x7D#8], .bit7L), ([0xCB#8, 0x7E#8], .bit7MemHl), ([0xCB#8, 0x7F#8], .bit7A)] = true := by
  decide

theorem test_decode_extended_8 :
  decodesTo [
    ([0xCB#8, 0x80#8], .res0B), ([0xCB#8, 0x81#8], .res0C), ([0xCB#8, 0x82#8], .res0D), ([0xCB#8, 0x83#8], .res0E),
    ([0xCB#8, 0x84#8], .res0H), ([0xCB#8, 0x85#8], .res0L), ([0xCB#8, 0x86#8], .res0MemHl), ([0xCB#8, 0x87#8], .res0A),
    ([0xCB#8, 0x88#8], .res1B), ([0xCB#8, 0x89#8], .res1C), ([0xCB#8, 0x8A#8], .res1D), ([0xCB#8, 0x8B#8], .res1E),
    ([0xCB#8, 0x8C#8], .res1H), ([0xCB#8, 0x8D#8], .res1L), ([0xCB#8, 0x8E#8], .res1MemHl), ([0xCB#8, 0x8F#8], .res1A)] = true := by
  decide

theorem test_decode_extended_9 :
  decodesTo [
    ([0xCB#8, 0x90#8], .res2B), ([0xCB#8, 0x91#8], .res2C), ([0xCB#8, 0x92#8], .res2D), ([0xCB#8, 0x93#8], .res2E),
    ([0xCB#8, 0x94#8], .res2H), ([0xCB#8, 0x95#8], .res2L), ([0xCB#8, 0x96#8], .res2MemHl), ([0xCB#8, 0x97#8], .res2A),
    ([0xCB#8, 0x98#8], .res3B), ([0xCB#8, 0x99#8], .res3C), ([0xCB#8, 0x9A#8], .res3D), ([0xCB#8, 0x9B#8], .res3E),
    ([0xCB#8, 0x9C#8], .res3H), ([0xCB#8, 0x9D#8], .res3L), ([0xCB#8, 0x9E#8], .res3MemHl), ([0xCB#8, 0x9F#8], .res3A)] = true := by
  decide

theorem test_decode_extended_A :
  decodesTo [
    ([0xCB#8, 0xA0#8], .res4B), ([0xCB#8, 0xA1#8], .res4C), ([0xCB#8, 0xA2#8], .res4D), ([0xCB#8, 0xA3#8], .res4E),
    ([0xCB#8, 0xA4#8], .res4H), ([0xCB#8, 0xA5#8], .res4L), ([0xCB#8, 0xA6#8], .res4MemHl), ([0xCB#8, 0xA7#8], .res4A),
    ([0xCB#8, 0xA8#8], .res5B), ([0xCB#8, 0xA9#8], .res5C), ([0xCB#8, 0xAA#8], .res5D), ([0xCB#8, 0xAB#8], .res5E),
    ([0xCB#8, 0xAC#8], .res5H), ([0xCB#8, 0xAD#8], .res5L), ([0xCB#8, 0xAE#8], .res5MemHl), ([0xCB#8, 0xAF#8], .res5A)] = true := by
  decide

theorem test_decode_extended_B :
  decodesTo [
    ([0xCB#8, 0xB0#8], .res6B), ([0xCB#8, 0xB1#8], .res6C), ([0xCB#8, 0xB2#8], .res6D), ([0xCB#8, 0xB3#8], .res6E),
    ([0xCB#8, 0xB4#8], .res6H), ([0xCB#8, 0xB5#8], .res6L), ([0xCB#8, 0xB6#8], .res6MemHl), ([0xCB#8, 0xB7#8], .res6A),
    ([0xCB#8, 0xB8#8], .res7B), ([0xCB#8, 0xB9#8], .res7C), ([0xCB#8, 0xBA#8], .res7D), ([0xCB#8, 0xBB#8], .res7E),
    ([0xCB#8, 0xBC#8], .res7H), ([0xCB#8, 0xBD#8], .res7L), ([0xCB#8, 0xBE#8], .res7MemHl), ([0xCB#8, 0xBF#8], .res7A)] = true := by
  decide

theorem test_decode_extended_C :
  decodesTo [
    ([0xCB#8, 0xC0#8], .set0B), ([0xCB#8, 0xC1#8], .set0C), ([0xCB#8, 0xC2#8], .set0D), ([0xCB#8, 0xC3#8], .set0E),
    ([0xCB#8, 0xC4#8], .set0H), ([0xCB#8, 0xC5#8], .set0L), ([0xCB#8, 0xC6#8], .set0MemHl), ([0xCB#8, 0xC7#8], .set0A),
    ([0xCB#8, 0xC8#8], .set1B), ([0xCB#8, 0xC9#8], .set1C), ([0xCB#8, 0xCA#8], .set1D), ([0xCB#8, 0xCB#8], .set1E),
    ([0xCB#8, 0xCC#8], .set1H), ([0xCB#8, 0xCD#8], .set1L), ([0xCB#8, 0xCE#8], .set1MemHl), ([0xCB#8, 0xCF#8], .set1A)] = true := by
  decide

theorem test_decode_extended_D :
  decodesTo [
    ([0xCB#8, 0xD0#8], .set2B), ([0xCB#8, 0xD1#8], .set2C), ([0xCB#8, 0xD2#8], .set2D), ([0xCB#8, 0xD3#8], .set2E),
    ([0xCB#8, 0xD4#8], .set2H), ([0xCB#8, 0xD5#8], .set2L), ([0xCB#8, 0xD6#8], .set2MemHl), ([0xCB#8, 0xD7#8], .set2A),
    ([0xCB#8, 0xD8#8], .set3B), ([0xCB#8, 0xD9#8], .set3C), ([0xCB#8, 0xDA#8], .set3D), ([0xCB#8, 0xDB#8], .set3E),
    ([0xCB#8, 0xDC#8], .set3H), ([0xCB#8, 0xDD#8], .set3L), ([0xCB#8, 0xDE#8], .set3MemHl), ([0xCB#8, 0xDF#8], .set3A)] = true := by
  decide

theorem test_decode_extended_E :
  decodesTo [
    ([0xCB#8, 0xE0#8], .set4B), ([0xCB#8, 0xE1#8], .set4C), ([0xCB#8, 0xE2#8], .set4D), ([0xCB#8, 0xE3#8], .set4E),
    ([0xCB#8, 0xE4#8], .set4H), ([0xCB#8, 0xE5#8], .set4L), ([0xCB#8, 0xE6#8], .set4MemHl), ([0xCB#8, 0xE7#8], .set4A),
    ([0xCB#8, 0xE8#8], .set5B), ([0xCB#8, 0xE9#8], .set5C), ([0xCB#8, 0xEA#8], .set5D), ([0xCB#8, 0xEB#8], .set5E),
    ([0xCB#8, 0xEC#8], .set5H), ([0xCB#8, 0xED#8], .set5L), ([0xCB#8, 0xEE#8], .set5MemHl), ([0xCB#8, 0xEF#8], .set5A)] = true := by
  decide

theorem test_decode_extended_F :
  decodesTo [
    ([0xCB#8, 0xF0#8], .set6B), ([0xCB#8, 0xF1#8], .set6C), ([0xCB#8, 0xF2#8], .set6D), ([0xCB#8, 0xF3#8], .set6E),
    ([0xCB#8, 0xF4#8], .set6H), ([0xCB#8, 0xF5#8], .set6L), ([0xCB#8, 0xF6#8], .set6MemHl), ([0xCB#8, 0xF7#8], .set6A),
    ([0xCB#8, 0xF8#8], .set7B), ([0xCB#8, 0xF9#8], .set7C), ([0xCB#8, 0xFA#8], .set7D), ([0xCB#8, 0xFB#8], .set7E),
    ([0xCB#8, 0xFC#8], .set7H), ([0xCB#8, 0xFD#8], .set7L), ([0xCB#8, 0xFE#8], .set7MemHl), ([0xCB#8, 0xFF#8], .set7A)] = true := by
  decide

/-- Words written bit by bit from the encoding patterns of 41_load8 to 47_system. -/
theorem test_decode_bit_patterns :
    decodesTo [
      ([0b01111000#8], .ldAB), ([0b00111110#8, 0x05#8], .ldAD8 0x05#8), ([0b01100110#8], .ldHMemHl),
      ([0b01110011#8], .ldMemHlE), ([0b00110001#8, 0xFE#8, 0xFF#8], .ldSpD16 0xFFFE#16), ([0b11010101#8], .pushDe),
      ([0b11110001#8], .popAf), ([0b10011100#8], .sbcAH), ([0b11101110#8, 0x0F#8], .xorD8 0x0F#8), ([0b00101100#8], .incL),
      ([0b00001011#8], .decBc), ([0b00111001#8], .addHlSp), ([0b11001011#8, 0b00110010#8], .swapD),
      ([0b11001011#8, 0b01111110#8], .bit7MemHl), ([0b11001011#8, 0b10000001#8], .res0C),
      ([0b11001011#8, 0b11010101#8], .set2L), ([0b00111000#8, 0x10#8], .jrC 0x10#8),
      ([0b11010010#8, 0x00#8, 0xD0#8], .jpNc 0xD000#16), ([0b11001100#8, 0x00#8, 0xC1#8], .callZ 0xC100#16),
      ([0b11000000#8], .retNz), ([0b11101111#8], .rst28), ([0b01110110#8], .halt)] = true := by decide

/-- Bytes that are too few decode to nothing (R103), and 0xCB alone is its dispatch entry (R133). -/
theorem test_decode_short :
    decode [] = .error .noByte ∧ decode [0x06#8] = .error (.truncated 0x06#8) ∧
    decode [0xC3#8, 0x00#8] = .error (.truncated 0xC3#8) ∧ decode [0xCB#8] = .ok (.prefixCb, []) := by decide

/-- Table words: an extended row has 0xCB in the high byte (R117). -/
theorem test_decodeTableWord :
    decodeTableWord 8 0x78 = some .ldAB ∧ decodeTableWord 16 0xCB47 = some .bit0A ∧
    decodeTableWord 8 0xCB = some .prefixCb ∧ decodeTableWord 8 0xC3 = some (.jp 0x0000#16) := by decide

/-! One step, on the start states of 95_test_vectors section 2. -/

/-- The registers of a start state before its row's own. -/
def regs : RegFile :=
  { a := 0x00#8, b := 0x00#8, c := 0x00#8, d := 0x00#8, e := 0x00#8, h := 0x00#8, l := 0x00#8
    f := { z := false, n := false, hf := false, cf := false }, pc := 0xC000#16, sp := 0xFFFE#16 }

/-- A start state: bytes at 0xC000, RAM cells, registers; the latch at 0 and ROM_PAD_BYTE 0xFF. -/
def start (prog : List Byte) (cells : List Host.Cell) (rf : RegFile) : State :=
  { State.reset with
    rf := rf
    bus := { (State.reset.bus.placeAll 0xC000#16 prog) with
      ram := cells.foldl (fun m c => Memory.write m c.1 c.2) (State.reset.bus.placeAll 0xC000#16 prog).ram
      biosOverlay := false } }

/-- A start state with the latch at 1. -/
def latched (s : State) : State := { s with bus := { s.bus with biosOverlay := true } }

/-- A start state with IME at 1. -/
def withIme (s : State) : State := { s with ime := true }

/-- A start state with one byte of the BIOS image set. -/
def withBios (k : Fin 256) (v : Byte) (s : State) : State :=
  { s with bus := { s.bus with cfg := { s.bus.cfg with bios := s.bus.cfg.bios.set k.val v } } }

/-- A start state with a ROM image. -/
def withRom (rom : List Byte) (s : State) : State :=
  { s with bus := { s.bus with cfg := { s.bus.cfg with rom := rom } } }

/-- What one step leaves, if it answers a next state. -/
def after {α : Type} (s : State) (see : State → α) : Option α :=
  match step s with
  | .next t => some (see t)
  | .fault _ | .refused _ => none

/-- V1 (R150). -/
theorem test_v1_ldBE :
    after (start [0x43#8] [] { regs with b := 0x00#8, e := 0x5A#8 })
      (fun t => (t.rf, t.cycles)) =
      some ({ regs with b := 0x5A#8, e := 0x5A#8, pc := 0xC001#16 }, 4) := by decide

/-- V4 (R152). -/
theorem test_v4_ldAMemHl :
    after (start [0x7E#8] [(0xC100, 0x42#8)] { regs with h := 0xC1#8, l := 0x00#8 })
      (fun t => (t.rf, t.cycles)) =
      some ({ regs with a := 0x42#8, h := 0xC1#8, l := 0x00#8, pc := 0xC001#16 }, 8) := by decide

/-- V7 (R153). -/
theorem test_v7_ldMemHlA :
    after (latched (start [0x77#8] [] { regs with a := 0x55#8, h := 0x00#8, l := 0x10#8 }))
      (fun t => (t.rf, t.cycles, t.bus.biosOverlay, t.events)) =
      some ({ regs with a := 0x55#8, h := 0x00#8, l := 0x10#8, pc := 0xC001#16 }, 8, true, [.romWriteRejected 0x0010#16 0x55#8]) := by decide

/-- V8 (R154). -/
theorem test_v8_ldMemHlD8 :
    after (start [0x36#8, 0xEE#8] [] { regs with h := 0xFF#8, l := 0x80#8 })
      (fun t => (t.rf, t.cycles, t.bus.peek 0xFF80#16)) =
      some ({ regs with h := 0xFF#8, l := 0x80#8, pc := 0xC002#16 }, 12, 0xEE#8) := by decide

/-- V10 (R158). -/
theorem test_v10_ldMemDeA :
    after (start [0x12#8] [] { regs with a := 0x3C#8, d := 0xE0#8, e := 0x05#8 })
      (fun t => (t.rf, t.cycles, t.bus.peek 0xC005#16)) =
      some ({ regs with a := 0x3C#8, d := 0xE0#8, e := 0x05#8, pc := 0xC001#16 }, 8, 0x3C#8) := by decide

/-- V13 (R161). -/
theorem test_v13_ldhAMemA8 :
    after (start [0xF0#8, 0x85#8] [(0xFF85, 0x66#8)] regs)
      (fun t => (t.rf, t.cycles)) =
      some ({ regs with a := 0x66#8, pc := 0xC002#16 }, 12) := by decide

/-- V15 (R164). -/
theorem test_v15_ldMemCA :
    after (start [0xE2#8] [] { regs with a := 0x7E#8, c := 0x90#8 })
      (fun t => (t.rf, t.cycles, t.bus.peek 0xFF90#16)) =
      some ({ regs with a := 0x7E#8, c := 0x90#8, pc := 0xC001#16 }, 8, 0x7E#8) := by decide

/-- V16 (R165). -/
theorem test_v16_ldMemHlIncA :
    after (start [0x22#8] [] { regs with a := 0x01#8, h := 0xC1#8, l := 0xFF#8 })
      (fun t => (t.rf, t.cycles, t.bus.peek 0xC1FF#16)) =
      some ({ regs with a := 0x01#8, h := 0xC2#8, l := 0x00#8, pc := 0xC001#16 }, 8, 0x01#8) := by decide

/-- V18 (R167). -/
theorem test_v18_ldAMemHlInc :
    after (start [0x2A#8] [(0xFFFF, 0x5D#8)] { regs with h := 0xFF#8, l := 0xFF#8 })
      (fun t => (t.rf, t.cycles)) =
      some ({ regs with a := 0x5D#8, h := 0x00#8, l := 0x00#8, pc := 0xC001#16 }, 8) := by decide

/-- V20 (R170). -/
theorem test_v20_ldBcD16 :
    after (start [0x01#8, 0x34#8, 0x12#8] [] regs)
      (fun t => (t.rf, t.cycles)) =
      some ({ regs with b := 0x12#8, c := 0x34#8, pc := 0xC003#16 }, 12) := by decide

/-- V130 (R171). -/
theorem test_v130_ldMemA16Sp :
    after (latched (start [0x08#8, 0x10#8, 0x00#8] [] { regs with sp := 0xABCD#16 }))
      (fun t => (t.rf, t.cycles, t.bus.biosOverlay, t.events)) =
      some ({ regs with pc := 0xC003#16, sp := 0xABCD#16 }, 20, true, [.romWriteRejected 0x0010#16 0xCD#8, .romWriteRejected 0x0011#16 0xAB#8]) := by decide

/-- V23 (R172). -/
theorem test_v23_ldSpHl :
    after (start [0xF9#8] [] { regs with h := 0xDF#8, l := 0xF0#8 })
      (fun t => (t.rf, t.cycles)) =
      some ({ regs with h := 0xDF#8, l := 0xF0#8, pc := 0xC001#16, sp := 0xDFF0#16 }, 8) := by decide

/-- V25 (R173). -/
theorem test_v25_ldHlSpE8 :
    after (start [0xF8#8, 0xFF#8] [] { regs with sp := 0x00FF#16 })
      (fun t => (t.rf, t.cycles)) =
      some ({ regs with l := 0xFE#8, f := ⟨false, false, true, true⟩, pc := 0xC002#16, sp := 0x00FF#16 }, 12) := by decide

/-- V28 (R174). -/
theorem test_v28_pushDe :
    after (start [0xD5#8] [] { regs with d := 0xAB#8, e := 0xCD#8, sp := 0x0000#16 })
      (fun t => (t.rf, t.cycles, t.bus.peek 0xFFFE#16, t.bus.peek 0xFFFF#16)) =
      some ({ regs with d := 0xAB#8, e := 0xCD#8, pc := 0xC001#16, sp := 0xFFFE#16 }, 16, 0xCD#8, 0xAB#8) := by decide

/-- V29 (R175). -/
theorem test_v29_popAf :
    after (start [0xF1#8] [(0xC100, 0xFF#8), (0xC101, 0x12#8)] { regs with sp := 0xC100#16 })
      (fun t => (t.rf, t.cycles)) =
      some ({ regs with a := 0x12#8, f := ⟨true, true, true, true⟩, pc := 0xC001#16, sp := 0xC102#16 }, 12) := by decide

/-- V30 (R176). -/
theorem test_v30_popHl :
    after (start [0xE1#8] [(0xFFFC, 0x34#8), (0xFFFD, 0x12#8)] { regs with sp := 0xFFFC#16 })
      (fun t => (t.rf, t.cycles)) =
      some ({ regs with h := 0x12#8, l := 0x34#8, pc := 0xC001#16, sp := 0xFFFE#16 }, 12) := by decide

/-- V32 (R181). -/
theorem test_v32_addAC :
    after (start [0x81#8] [] { regs with a := 0xFF#8, c := 0x01#8 })
      (fun t => (t.rf, t.cycles)) =
      some ({ regs with a := 0x00#8, c := 0x01#8, f := ⟨true, false, true, true⟩, pc := 0xC001#16 }, 4) := by decide

/-- V35 (R182). -/
theorem test_v35_adcAE :
    after (start [0x8B#8] [] { regs with a := 0xE1#8, e := 0x0F#8, f := ⟨false, false, false, true⟩ })
      (fun t => (t.rf, t.cycles)) =
      some ({ regs with a := 0xF1#8, e := 0x0F#8, f := ⟨false, false, true, false⟩, pc := 0xC001#16 }, 4) := by decide

/-- V38 (R183). -/
theorem test_v38_subD8 :
    after (start [0xD6#8, 0x01#8] [] { regs with a := 0x00#8 })
      (fun t => (t.rf, t.cycles)) =
      some ({ regs with a := 0xFF#8, f := ⟨false, true, true, true⟩, pc := 0xC002#16 }, 8) := by decide

/-- V41 (R184). -/
theorem test_v41_sbcAA :
    after (start [0x9F#8] [] { regs with a := 0x42#8, f := ⟨false, false, false, true⟩ })
      (fun t => (t.rf, t.cycles)) =
      some ({ regs with a := 0xFF#8, f := ⟨false, true, true, true⟩, pc := 0xC001#16 }, 4) := by decide

/-- V44 (R185). -/
theorem test_v44_andD8 :
    after (start [0xE6#8, 0x0F#8] [] { regs with a := 0xF0#8 })
      (fun t => (t.rf, t.cycles)) =
      some ({ regs with a := 0x00#8, f := ⟨true, false, true, false⟩, pc := 0xC002#16 }, 8) := by decide

/-- V45 (R186). -/
theorem test_v45_xorA :
    after (start [0xAF#8] [] { regs with a := 0x5A#8, f := ⟨true, true, true, true⟩ })
      (fun t => (t.rf, t.cycles)) =
      some ({ regs with a := 0x00#8, f := ⟨true, false, false, false⟩, pc := 0xC001#16 }, 4) := by decide

/-- V46 (R187). -/
theorem test_v46_orA :
    after (start [0xB7#8] [] { regs with a := 0x00#8 })
      (fun t => (t.rf, t.cycles)) =
      some ({ regs with a := 0x00#8, f := ⟨true, false, false, false⟩, pc := 0xC001#16 }, 4) := by decide

/-- V47 (R188). -/
theorem test_v47_cpD8 :
    after (start [0xFE#8, 0x2F#8] [] { regs with a := 0x3C#8 })
      (fun t => (t.rf, t.cycles)) =
      some ({ regs with a := 0x3C#8, f := ⟨false, true, true, false⟩, pc := 0xC002#16 }, 8) := by decide

/-- V51 (R190). -/
theorem test_v51_incA :
    after (start [0x3C#8] [] { regs with a := 0xFF#8, f := ⟨false, false, false, true⟩ })
      (fun t => (t.rf, t.cycles)) =
      some ({ regs with a := 0x00#8, f := ⟨true, false, true, true⟩, pc := 0xC001#16 }, 4) := by decide

/-- V54 (R191). -/
theorem test_v54_decD :
    after (start [0x15#8] [] { regs with d := 0x00#8 })
      (fun t => (t.rf, t.cycles)) =
      some ({ regs with d := 0xFF#8, f := ⟨false, true, true, false⟩, pc := 0xC001#16 }, 4) := by decide

/-- V55 (R192). -/
theorem test_v55_incMemHl :
    after (start [0x34#8] [(0xC100, 0xFF#8)] { regs with h := 0xC1#8, l := 0x00#8 })
      (fun t => (t.rf, t.cycles, t.bus.peek 0xC100#16)) =
      some ({ regs with h := 0xC1#8, l := 0x00#8, f := ⟨true, false, true, false⟩, pc := 0xC001#16 }, 12, 0x00#8) := by decide

/-- V56 (R193). -/
theorem test_v56_decMemHl :
    after (start [0x35#8] [] { regs with h := 0x80#8, l := 0x00#8 })
      (fun t => (t.rf, t.cycles)) =
      some ({ regs with h := 0x80#8, l := 0x00#8, f := ⟨false, true, true, false⟩, pc := 0xC001#16 }, 12) := by decide

/-- V58 (R194). -/
theorem test_v58_daa :
    after (start [0x27#8] [] { regs with a := 0x9A#8, f := ⟨false, false, false, false⟩ })
      (fun t => (t.rf, t.cycles)) =
      some ({ regs with a := 0x00#8, f := ⟨true, false, false, true⟩, pc := 0xC001#16 }, 4) := by decide

/-- V59 (R194). -/
theorem test_v59_daa :
    after (start [0x27#8] [] { regs with a := 0x0F#8, f := ⟨false, true, true, false⟩ })
      (fun t => (t.rf, t.cycles)) =
      some ({ regs with a := 0x09#8, f := ⟨false, true, false, false⟩, pc := 0xC001#16 }, 4) := by decide

/-- V61 (R195). -/
theorem test_v61_cpl :
    after (start [0x2F#8] [] { regs with a := 0x35#8 })
      (fun t => (t.rf, t.cycles)) =
      some ({ regs with a := 0xCA#8, f := ⟨false, true, true, false⟩, pc := 0xC001#16 }, 4) := by decide

/-- V62 (R196). -/
theorem test_v62_scf :
    after (start [0x37#8] [] { regs with f := ⟨true, true, true, false⟩ })
      (fun t => (t.rf, t.cycles)) =
      some ({ regs with f := ⟨true, false, false, true⟩, pc := 0xC001#16 }, 4) := by decide

/-- V64 (R197). -/
theorem test_v64_ccf :
    after (start [0x3F#8] [] { regs with f := ⟨true, false, false, false⟩ })
      (fun t => (t.rf, t.cycles)) =
      some ({ regs with f := ⟨true, false, false, true⟩, pc := 0xC001#16 }, 4) := by decide

/-- V65 (R200). -/
theorem test_v65_incBc :
    after (start [0x03#8] [] { regs with b := 0x00#8, c := 0xFF#8 })
      (fun t => (t.rf, t.cycles)) =
      some ({ regs with b := 0x01#8, c := 0x00#8, pc := 0xC001#16 }, 8) := by decide

/-- V68 (R201). -/
theorem test_v68_decHl :
    after (start [0x2B#8] [] { regs with h := 0x00#8, l := 0x00#8, f := ⟨true, false, false, false⟩ })
      (fun t => (t.rf, t.cycles)) =
      some ({ regs with h := 0xFF#8, l := 0xFF#8, f := ⟨true, false, false, false⟩, pc := 0xC001#16 }, 8) := by decide

/-- V70 (R202). -/
theorem test_v70_addHlHl :
    after (start [0x29#8] [] { regs with h := 0x80#8, l := 0x00#8, f := ⟨true, false, false, false⟩ })
      (fun t => (t.rf, t.cycles)) =
      some ({ regs with h := 0x00#8, l := 0x00#8, f := ⟨true, false, false, true⟩, pc := 0xC001#16 }, 8) := by decide

/-- V74 (R203). -/
theorem test_v74_addSpE8 :
    after (start [0xE8#8, 0xFF#8] [] { regs with sp := 0x0001#16 })
      (fun t => (t.rf, t.cycles)) =
      some ({ regs with f := ⟨false, false, true, true⟩, pc := 0xC002#16, sp := 0x0000#16 }, 16) := by decide

/-- V76 (R213). -/
theorem test_v76_rlca :
    after (start [0x07#8] [] { regs with a := 0x00#8, f := ⟨true, false, false, false⟩ })
      (fun t => (t.rf, t.cycles)) =
      some ({ regs with a := 0x00#8, f := ⟨false, false, false, false⟩, pc := 0xC001#16 }, 4) := by decide

/-- V77 (R214). -/
theorem test_v77_rrca :
    after (start [0x0F#8] [] { regs with a := 0x3B#8 })
      (fun t => (t.rf, t.cycles)) =
      some ({ regs with a := 0x9D#8, f := ⟨false, false, false, true⟩, pc := 0xC001#16 }, 4) := by decide

/-- V78 (R215). -/
theorem test_v78_rla :
    after (start [0x17#8] [] { regs with a := 0x95#8, f := ⟨false, false, false, true⟩ })
      (fun t => (t.rf, t.cycles)) =
      some ({ regs with a := 0x2B#8, f := ⟨false, false, false, true⟩, pc := 0xC001#16 }, 4) := by decide

/-- V79 (R216). -/
theorem test_v79_rra :
    after (start [0x1F#8] [] { regs with a := 0x81#8 })
      (fun t => (t.rf, t.cycles)) =
      some ({ regs with a := 0x40#8, f := ⟨false, false, false, true⟩, pc := 0xC001#16 }, 4) := by decide

/-- V80 (R217). -/
theorem test_v80_rlcB :
    after (start [0xCB#8, 0x00#8] [] { regs with b := 0x85#8 })
      (fun t => (t.rf, t.cycles)) =
      some ({ regs with b := 0x0B#8, f := ⟨false, false, false, true⟩, pc := 0xC002#16 }, 8) := by decide

/-- V82 (R218). -/
theorem test_v82_rrcC :
    after (start [0xCB#8, 0x09#8] [] { regs with c := 0x01#8 })
      (fun t => (t.rf, t.cycles)) =
      some ({ regs with c := 0x80#8, f := ⟨false, false, false, true⟩, pc := 0xC002#16 }, 8) := by decide

/-- V84 (R219). -/
theorem test_v84_rlL :
    after (start [0xCB#8, 0x15#8] [] { regs with l := 0x01#8, f := ⟨false, false, false, true⟩ })
      (fun t => (t.rf, t.cycles)) =
      some ({ regs with l := 0x03#8, f := ⟨false, false, false, false⟩, pc := 0xC002#16 }, 8) := by decide

/-- V86 (R220). -/
theorem test_v86_rrA :
    after (start [0xCB#8, 0x1F#8] [] { regs with a := 0x00#8, f := ⟨false, false, false, true⟩ })
      (fun t => (t.rf, t.cycles)) =
      some ({ regs with a := 0x80#8, f := ⟨false, false, false, false⟩, pc := 0xC002#16 }, 8) := by decide

/-- V87 (R221). -/
theorem test_v87_slaD :
    after (start [0xCB#8, 0x22#8] [] { regs with d := 0x80#8 })
      (fun t => (t.rf, t.cycles)) =
      some ({ regs with d := 0x00#8, f := ⟨true, false, false, true⟩, pc := 0xC002#16 }, 8) := by decide

/-- V89 (R222). -/
theorem test_v89_sraE :
    after (start [0xCB#8, 0x2B#8] [] { regs with e := 0x8A#8 })
      (fun t => (t.rf, t.cycles)) =
      some ({ regs with e := 0x45#8, pc := 0xC002#16 }, 8) := by decide

/-- V91 (R223). -/
theorem test_v91_swapB :
    after (start [0xCB#8, 0x30#8] [] { regs with b := 0x12#8, f := ⟨false, false, false, true⟩ })
      (fun t => (t.rf, t.cycles)) =
      some ({ regs with b := 0x21#8, f := ⟨false, false, false, false⟩, pc := 0xC002#16 }, 8) := by decide

/-- V94 (R224). -/
theorem test_v94_srlA :
    after (start [0xCB#8, 0x3F#8] [] { regs with a := 0xFF#8 })
      (fun t => (t.rf, t.cycles)) =
      some ({ regs with a := 0x7F#8, f := ⟨false, false, false, true⟩, pc := 0xC002#16 }, 8) := by decide

/-- V98 (R225). -/
theorem test_v98_bit7H :
    after (start [0xCB#8, 0x7C#8] [] { regs with h := 0x80#8, f := ⟨false, false, true, true⟩ })
      (fun t => (t.rf, t.cycles)) =
      some ({ regs with h := 0x80#8, f := ⟨false, false, false, true⟩, pc := 0xC002#16 }, 8) := by decide

/-- V101 (R227). -/
theorem test_v101_set1E :
    after (start [0xCB#8, 0xCB#8] [] { regs with e := 0x00#8 })
      (fun t => (t.rf, t.cycles)) =
      some ({ regs with e := 0x02#8, pc := 0xC002#16 }, 8) := by decide

/-- V103 (R226). -/
theorem test_v103_res0MemHl :
    after (latched (start [0xCB#8, 0x86#8] [] { regs with h := 0x00#8, l := 0x20#8 }))
      (fun t => (t.rf, t.cycles, t.bus.biosOverlay, t.events)) =
      some ({ regs with h := 0x00#8, l := 0x20#8, pc := 0xC002#16 }, 16, true, [.romWriteRejected 0x0020#16 0x00#8]) := by decide

/-- V105 (R241). -/
theorem test_v105_jpZ :
    after (start [0xCA#8, 0x00#8, 0xD0#8] [] { regs with f := ⟨true, false, false, false⟩ })
      (fun t => (t.rf, t.cycles)) =
      some ({ regs with f := ⟨true, false, false, false⟩, pc := 0xD000#16 }, 16) := by decide

/-- V106 (R241). -/
theorem test_v106_jpZ :
    after (start [0xCA#8, 0x00#8, 0xD0#8] [] { regs with f := ⟨false, false, false, false⟩ })
      (fun t => (t.rf, t.cycles)) =
      some ({ regs with f := ⟨false, false, false, false⟩, pc := 0xC003#16 }, 12) := by decide

/-- V107 (R242). -/
theorem test_v107_jpHl :
    after (start [0xE9#8] [] { regs with h := 0xC1#8, l := 0x23#8 })
      (fun t => (t.rf, t.cycles)) =
      some ({ regs with h := 0xC1#8, l := 0x23#8, pc := 0xC123#16 }, 4) := by decide

/-- V109 (R243). -/
theorem test_v109_jr :
    after (start [0x18#8, 0xFB#8] [] regs)
      (fun t => (t.rf, t.cycles)) =
      some ({ regs with pc := 0xBFFD#16 }, 12) := by decide

/-- V111 (R244). -/
theorem test_v111_jrNz :
    after (start [0x20#8, 0xFC#8] [] { regs with f := ⟨false, false, false, false⟩ })
      (fun t => (t.rf, t.cycles)) =
      some ({ regs with f := ⟨false, false, false, false⟩, pc := 0xBFFE#16 }, 12) := by decide

/-- V112 (R244). -/
theorem test_v112_jrNz :
    after (start [0x20#8, 0xFC#8] [] { regs with f := ⟨true, false, false, false⟩ })
      (fun t => (t.rf, t.cycles)) =
      some ({ regs with f := ⟨true, false, false, false⟩, pc := 0xC002#16 }, 8) := by decide

/-- V114 (R245). -/
theorem test_v114_call :
    after (start [0xCD#8, 0x00#8, 0xC1#8] [] regs)
      (fun t => (t.rf, t.cycles, t.bus.peek 0xFFFC#16, t.bus.peek 0xFFFD#16)) =
      some ({ regs with pc := 0xC100#16, sp := 0xFFFC#16 }, 24, 0x03#8, 0xC0#8) := by decide

/-- V116 (R246). -/
theorem test_v116_callNz :
    after (start [0xC4#8, 0x00#8, 0xC1#8] [] { regs with f := ⟨true, false, false, false⟩ })
      (fun t => (t.rf, t.cycles)) =
      some ({ regs with f := ⟨true, false, false, false⟩, pc := 0xC003#16 }, 12) := by decide

/-- V117 (R247). -/
theorem test_v117_ret :
    after (start [0xC9#8] [(0xFFFC, 0x03#8), (0xFFFD, 0xC0#8)] { regs with sp := 0xFFFC#16 })
      (fun t => (t.rf, t.cycles)) =
      some ({ regs with pc := 0xC003#16, sp := 0xFFFE#16 }, 16) := by decide

/-- V118 (R250). -/
theorem test_v118_retNz :
    after (start [0xC0#8] [(0xFFFC, 0x03#8), (0xFFFD, 0xC0#8)] { regs with f := ⟨true, false, false, false⟩, sp := 0xFFFC#16 })
      (fun t => (t.rf, t.cycles)) =
      some ({ regs with f := ⟨true, false, false, false⟩, pc := 0xC001#16, sp := 0xFFFC#16 }, 8) := by decide

/-- V119 (R250). -/
theorem test_v119_retNz :
    after (start [0xC0#8] [(0xFFFC, 0x03#8), (0xFFFD, 0xC0#8)] { regs with f := ⟨false, false, false, false⟩, sp := 0xFFFC#16 })
      (fun t => (t.rf, t.cycles)) =
      some ({ regs with f := ⟨false, false, false, false⟩, pc := 0xC003#16, sp := 0xFFFE#16 }, 20) := by decide

/-- V120 (R248). -/
theorem test_v120_reti :
    after (start [0xD9#8] [(0xFFFC, 0x03#8), (0xFFFD, 0xC0#8)] { regs with sp := 0xFFFC#16 })
      (fun t => (t.rf, t.cycles, t.ime)) =
      some ({ regs with pc := 0xC003#16, sp := 0xFFFE#16 }, 16, true) := by decide

/-- V121 (R249). -/
theorem test_v121_rst28 :
    after (start [0xEF#8] [] regs)
      (fun t => (t.rf, t.cycles, t.bus.peek 0xFFFC#16, t.bus.peek 0xFFFD#16)) =
      some ({ regs with pc := 0x0028#16, sp := 0xFFFC#16 }, 16, 0x01#8, 0xC0#8) := by decide

/-- V123 (R260). -/
theorem test_v123_nop :
    after (start [0x00#8] [] regs)
      (fun t => (t.rf, t.cycles)) =
      some ({ regs with pc := 0xC001#16 }, 4) := by decide

/-- V124 (R261). -/
theorem test_v124_halt :
    after (start [0x76#8] [] regs)
      (fun t => (t.rf, t.cycles, t.halted)) =
      some ({ regs with pc := 0xC001#16 }, 4, true) := by decide

/-- V125 (R262). -/
theorem test_v125_stop :
    after (start [0x10#8, 0x00#8] [] regs)
      (fun t => (t.rf, t.cycles, t.halted)) =
      some ({ regs with pc := 0xC002#16 }, 4, true) := by decide

/-- V126 (R263). -/
theorem test_v126_di :
    after (withIme (start [0xF3#8] [] regs))
      (fun t => (t.rf, t.cycles, t.ime)) =
      some ({ regs with pc := 0xC001#16 }, 4, false) := by decide

/-- V127 (R264). -/
theorem test_v127_ei :
    after (start [0xFB#8] [] regs)
      (fun t => (t.rf, t.cycles, t.ime)) =
      some ({ regs with pc := 0xC001#16 }, 4, true) := by decide

/-- V128 (R135). -/
theorem test_v128_undefined :
    after (start [0xD3#8] [] regs)
      (fun t => (t.rf, t.cycles, t.events)) =
      some ({ regs with pc := 0xC001#16 }, 4, [.undefinedOpcode 0xD3#8 0xC000#16]) := by decide

/-- V135 (R160). -/
theorem test_v135_ldMemA16A :
    after (start [0xEA#8, 0x10#8, 0xE1#8] [] { regs with a := 0x5C#8 })
      (fun t => (t.rf, t.cycles, t.bus.peek 0xC110#16)) =
      some ({ regs with a := 0x5C#8, pc := 0xC003#16 }, 16, 0x5C#8) := by decide

/-- V136 (R160). -/
theorem test_v136_ldMemA16A :
    after (start [0xEA#8, 0xA0#8, 0xFE#8] [] { regs with a := 0x5C#8 })
      (fun t => (t.rf, t.cycles, t.bus.peek 0xFEA0#16)) =
      some ({ regs with a := 0x5C#8, pc := 0xC003#16 }, 16, 0x00#8) := by decide

/-- V138 (R159). -/
theorem test_v138_ldAMemA16 :
    after (latched (withRom ((List.replicate 256 0x00#8) ++ [0x42#8]) (start [0xFA#8, 0x00#8, 0x01#8] [] regs)))
      (fun t => (t.rf, t.cycles, t.bus.biosOverlay)) =
      some ({ regs with a := 0x42#8, pc := 0xC003#16 }, 16, false) := by decide

/-- V139 (R159). -/
theorem test_v139_ldAMemA16 :
    after (latched (withBios 16 0x99#8 (start [0xFA#8, 0x10#8, 0x00#8] [] regs)))
      (fun t => (t.rf, t.cycles, t.bus.biosOverlay)) =
      some ({ regs with a := 0x99#8, pc := 0xC003#16 }, 16, true) := by decide

/-- The regions at their boundaries, from the table of R64. -/
theorem test_region_boundaries :
    [0x0000#16, 0x7FFF#16, 0x8000#16, 0x9FFF#16, 0xA000#16, 0xBFFF#16, 0xC000#16, 0xDFFF#16].map region =
      [.rom, .rom, .graphics, .graphics, .eram, .eram, .wram, .wram] ∧
    [0xE000#16, 0xFDFF#16, 0xFE00#16, 0xFE9F#16, 0xFEA0#16, 0xFEFF#16, 0xFF00#16, 0xFF7F#16, 0xFF80#16, 0xFFFF#16].map region =
      [.wramMirror, .wramMirror, .oam, .oam, .unusable, .unusable, .io, .io, .zram, .zram] := by decide

/-- S1: a write of 0x1FF to B stores 0xFF, and INC of 0xFF gives 0x00 (R21, R22). -/
theorem test_s1_masking :
    (writeReg .b (BitVec.ofNat 8 0x1FF) State.reset).rf.b = 0xFF#8 ∧
    (incReg .b (writeReg .b 0xFF#8 State.reset)).rf.b = 0x00#8 := by decide

/-- S2: pair views (R28, R29). -/
theorem test_s2_pairs :
    ({ regs with b := 0x12#8, c := 0x34#8 } : RegFile).pair .bc = 0x1234#16 ∧
    regs.setPair .de 0xABCD#16 = { regs with d := 0xAB#8, e := 0xCD#8 } ∧
    ({ regs with a := 0x12#8, f := ⟨true, true, true, true⟩ } : RegFile).pair .af = 0x12F0#16 := by decide

/-- A register-file bit operation outside 0 to 7 is reported, inside it is not (R30, R31). -/
theorem test_bit_index :
    (regSetBit .b 8 State.reset).events = [.invalidBitIndex .b 8] ∧
    (regResetBit .a (-1) State.reset).events = [.invalidBitIndex .a (-1)] ∧
    (regSetBit .b 7 State.reset).rf.b = 0x80#8 ∧ (regTestBit .b 0 State.reset).1 = some false := by decide

/-- The first step after reset runs BIOS[0] with the latch at 1 (R292). -/
theorem test_first_step_after_reset :
    after State.reset (fun t => (t.rf.pc, t.bus.biosOverlay, t.cycles)) = some (0x0001#16, true, 4) := by decide

/-- A placed table word is what the next step runs. -/
theorem test_withFetchWord :
    after (State.reset.withFetchWord 16 0xCBCB) (fun t => (t.rf.e, t.rf.pc)) = some (0x02#8, 0x0002#16) ∧
    after (State.reset.withFetchWord 8 0xFF) (fun t => (t.rf.pc, t.rf.sp)) = some (0x0038#16, 0xFFFE#16) := by decide


/-! Witnesses: for every statement with hypotheses, states and operands that meet them together; where it has clauses, each. -/

/-- The state most witnesses start from: LD B,0x03 at 0xC000. -/
def w : State := start [0x06#8, 0x03#8] [] regs

/-- A halted state. -/
def wHalted : State := { w with halted := true }

/-- A state that has reported a rejected write. -/
def wRejected : State := { w with events := [.romWriteRejected 0x0010#16 0x55#8] }

/-- An instruction whose bytes start at 0xFFFF: LD SP,d16 at 0xFFFF, its operand at 0x0000 and 0x0001. -/
def wTop : State := start [] [(0xFFFF, 0x31#8)] { regs with pc := 0xFFFF#16 }

theorem witness_DecodeEncodeRoundTrip :
    ((Instr.undefined 0xD3#8).wellFormed = true ∧ Instr.undefined 0xD3#8 ≠ .prefixCb) ∧
    ((Instr.jp 0xFFFF#16).wellFormed = true ∧ Instr.jp 0xFFFF#16 ≠ .prefixCb) := by decide

theorem witness_EncodeDecodeRoundTrip :
    decode [0xCB#8, 0xCB#8, 0x00#8] = .ok (.set1E, [0x00#8]) ∧
    decode [0x10#8, 0xFF#8] = .ok (.stop 0xFF#8, []) := by decide

theorem witness_StepRunsDecodedInstruction_decoded :
    w.halted = false ∧ w.seq = .fetchPrimary ∧ decode (fetchBytes 3 w).1 = .ok (.ldBD8 0x03#8, [0x00#8]) := by decide

theorem witness_StepRunsDecodedInstruction_decoded_at_top :
    wTop.halted = false ∧ wTop.seq = .fetchPrimary ∧
    decode (fetchBytes 3 wTop).1 = .ok (.ldSpD16 0xFFFF#16, []) := by decide

theorem witness_StepRunsDecodedInstruction_dispatch :
    let s := start [0xCB#8, 0x47#8] [] regs
    s.halted = false ∧ s.seq = .fetchPrimary ∧ (fetchBytes 1 s).1 = [0xCB#8] := by decide

theorem witness_UndefinedOpcodeIsReported :
    0xD3#8 ∈ undefinedOpcodes ∧ 0xFD#8 ∈ undefinedOpcodes ∧
    (let s := start [0xED#8] [] regs
     s.halted = false ∧ s.seq = .fetchPrimary ∧ s.bus.peek s.rf.pc ∈ undefinedOpcodes) := by decide

theorem witness_HaltedStepOnlyCountsCycles : wHalted.halted = true := by decide

theorem witness_PopReturnsWhatWasPushed_wrap :
    let s := { w with rf := { w.rf with sp := 0x0000#16 } }
    Memory.wf s.bus.ram = true ∧ ramKey (s.rf.sp - 2) = some 0xFFFE ∧ ramKey (s.rf.sp - 1) = some 0xFFFF := by decide

theorem witness_PopReturnsWhatWasPushed_mirror :
    let s := { w with rf := { w.rf with sp := 0xE001#16 } }
    Memory.wf s.bus.ram = true ∧ ramKey (s.rf.sp - 2) = some 0xDFFF ∧ ramKey (s.rf.sp - 1) = some 0xC000 := by decide

theorem witness_DecimalAdjustGivesDecimalSums :
    (99 < 100 ∧ 99 < 100 ∧ ({ w with rf := { w.rf with a := 0x99#8 } } : State).rf.a = Spec.bcd 99) ∧
    (0 < 100 ∧ 99 < 100 ∧ w.rf.a = Spec.bcd 0) := by decide

/-- Both values of each condition (ConditionalJumps, ConditionalCalls, ConditionalReturns). -/
theorem witness_conditions :
    let off : Flags := ⟨false, false, false, false⟩
    let on : Flags := ⟨true, false, false, true⟩
    Spec.cond .nz off = true ∧ Spec.cond .nz on = false ∧ Spec.cond .z on = true ∧ Spec.cond .z off = false ∧
    Spec.cond .nc off = true ∧ Spec.cond .nc on = false ∧ Spec.cond .c on = true ∧ Spec.cond .c off = false := by decide

theorem witness_StepKeepsTheInvariant : w.Inv ∧ ∃ t, step w = .next t := ⟨by decide, _, rfl⟩

theorem witness_ResetMeetsTheInvariant : Memory.wf w.bus.cfg.ramInit = true := by decide

/-- The three clauses at the ends of the mirror: the two names of a byte, a byte of no RAM, another byte. -/
theorem witness_ReadAfterWrite :
    Memory.wf w.bus.ram = true ∧ (ramKey 0xC000#16 = some 0xC000 ∧ ramKey 0xE000#16 = some 0xC000) ∧
    (ramKey 0xDDFF#16 = some 0xDDFF ∧ ramKey 0xFDFF#16 = some 0xDDFF) ∧
    (ramKey 0xFFFF#16 = some 0xFFFF ∧ ramKey 0xFFFF#16 = some 0xFFFF) ∧
    ramKey 0x7FFF#16 = none ∧ ramKey 0xFE00#16 = none ∧ ramKey 0xDFFF#16 ≠ ramKey 0xC000#16 ∧ 0x1DFF ≤ 0x1DFF := by decide

theorem witness_WhatNoStepUndoes : ∃ t, step (latched w) = .next t ∧ t.bus.biosOverlay = true := ⟨_, rfl, by decide⟩

theorem witness_WhatNoStepUndoes_halted : ∃ t, step wHalted = .next t ∧ wHalted.halted = true := ⟨_, rfl, by decide⟩

theorem witness_OnlyTheirInstructionsWriteHaltedAndIme_halted :
    (∃ t, exec .halt w = .next t ∧ t.halted ≠ w.halted) ∧ ∃ t, exec (.stop 0xFF#8) w = .next t ∧ t.halted ≠ w.halted :=
  ⟨⟨_, rfl, by decide⟩, _, rfl, by decide⟩

theorem witness_OnlyTheirInstructionsWriteHaltedAndIme_ime :
    (∃ t, exec .ei w = .next t ∧ t.ime ≠ w.ime) ∧ (∃ t, exec .reti w = .next t ∧ t.ime ≠ w.ime) ∧
    ∃ t, exec .di (withIme w) = .next t ∧ t.ime ≠ (withIme w).ime :=
  ⟨⟨_, rfl, by decide⟩, ⟨_, rfl, by decide⟩, _, rfl, by decide⟩

/-- A conditional instruction, taken and not taken. -/
theorem witness_CostsAreAsListed :
    (Instr.retNz.wellFormed = true ∧ Instr.retNz ≠ .prefixCb ∧ ∃ t, exec .retNz w = .next t ∧ t.cycles = 20) ∧
    (Instr.retZ.wellFormed = true ∧ Instr.retZ ≠ .prefixCb ∧ ∃ t, exec .retZ w = .next t ∧ t.cycles = 8) :=
  ⟨⟨by decide, by decide, _, rfl, by decide⟩, by decide, by decide, _, rfl, by decide⟩

/-- An undefined opcode costs 4 and leaves the flags (R135). -/
theorem witness_CostsAreAsListed_undefined :
    (Instr.undefined 0xD3#8).wellFormed = true ∧ Instr.undefined 0xD3#8 ≠ .prefixCb ∧
    ∃ t, exec (.undefined 0xD3#8) w = .next t ∧ t.cycles = 4 ∧ t.rf.f = w.rf.f :=
  ⟨by decide, by decide, _, rfl, by decide, rfl⟩

theorem witness_FlagsAreAsListed :
    Instr.bit0B.wellFormed = true ∧ Instr.bit0B ≠ .prefixCb ∧ ∃ t, exec .bit0B w = .next t ∧ t.rf.f.z = true :=
  ⟨by decide, by decide, _, rfl, by decide⟩

theorem witness_ProgramCounterAdvancesByLength :
    w.halted = false ∧ w.seq = .fetchPrimary ∧ decode (fetchBytes 3 w).1 = .ok (.ldBD8 0x03#8, [0x00#8]) ∧
    (Instr.ldBD8 0x03#8).transfersControl = false ∧ ∃ t, step w = .next t ∧ t.rf.pc = 0xC002#16 :=
  ⟨by decide, by decide, by decide, by decide, _, rfl, by decide⟩

/-- The bytes of wTop wrap from 0xFFFF to 0x0000. -/
theorem witness_ProgramCounterAdvancesByLength_at_top :
    wTop.halted = false ∧ wTop.seq = .fetchPrimary ∧ decode (fetchBytes 3 wTop).1 = .ok (.ldSpD16 0xFFFF#16, []) ∧
    (Instr.ldSpD16 0xFFFF#16).transfersControl = false ∧ ∃ t, step wTop = .next t ∧ t.rf.pc = 0x0002#16 :=
  ⟨by decide, by decide, by decide, by decide, _, rfl, by decide⟩

theorem witness_OnlyStoresWriteMemory :
    Instr.bit0MemHl.storesMemory = false ∧
    ∃ t, exec .bit0MemHl wRejected = .next t ∧ Event.romWriteRejected 0x0010#16 0x55#8 ∈ t.events :=
  ⟨by decide, _, rfl, by decide⟩

theorem witness_PowerOnWithAConfiguration :
    ([] : List Byte).length ≠ 256 ∧ (List.replicate 257 0x00#8 : List Byte).length ≠ 256 ∧
    (List.replicate 256 0x00#8 : List Byte).length = 256 ∧ Memory.wf [(0xA000, 0x01#8), (0xFFFF, 0x02#8)] = true :=
  ⟨by decide, by rw [List.length_replicate]; decide, List.length_replicate, by decide⟩

theorem witness_RegisterFileOperations :
    ((-1 : Int) < 0 ∨ (7 : Int) < -1) ∧ ((8 : Int) < 0 ∨ (7 : Int) < 8) ∧
    (regTestBit .b (-1) w).1 = none ∧ (regTestBit .b 8 w).1 = none ∧
    (regTestBit .b 0 w).1 = some false ∧ (regTestBit .b 7 w).1 = some false := by decide

theorem witness_OperandR8 :
    R8.hl = .hl ∧ R8.b.code = Reg8.b.code ∧ R8.a.code = Reg8.a.code := by decide

end Sys2Proof.Tests
end

section
/-! SUPPORT. Every instruction as a form of a family, and exec of each family: what a proof about all instructions splits on. -/
namespace Sys2Proof

/-! Statements about every operand, one operand at a time. -/

theorem Reg8.forall_iff {P : Reg8 → Prop} : (∀ r, P r) ↔ P .b ∧ P .c ∧ P .d ∧ P .e ∧ P .h ∧ P .l ∧ P .a :=
  ⟨fun h => by simp [h], fun h r => by cases r <;> simp [h]⟩

theorem R8.forall_iff {P : R8 → Prop} :
    (∀ o, P o) ↔ P .b ∧ P .c ∧ P .d ∧ P .e ∧ P .h ∧ P .l ∧ P .hl ∧ P .a :=
  ⟨fun h => by simp [h], fun h o => by cases o <;> simp [h]⟩

theorem Pair.forall_iff {P : Pair → Prop} : (∀ p, P p) ↔ P .bc ∧ P .de ∧ P .hl ∧ P .af :=
  ⟨fun h => by simp [h], fun h p => by cases p <;> simp [h]⟩

theorem Rp.forall_iff {P : Rp → Prop} : (∀ p, P p) ↔ P .bc ∧ P .de ∧ P .hl ∧ P .sp :=
  ⟨fun h => by simp [h], fun h p => by cases p <;> simp [h]⟩

theorem Cond.forall_iff {P : Cond → Prop} : (∀ cc, P cc) ↔ P .nz ∧ P .z ∧ P .nc ∧ P .c :=
  ⟨fun h => by simp [h], fun h cc => by cases cc <;> simp [h]⟩

theorem AluOp.forall_iff {P : AluOp → Prop} :
    (∀ o, P o) ↔ P .add ∧ P .adc ∧ P .sub ∧ P .sbc ∧ P .and ∧ P .xor ∧ P .or ∧ P .cp :=
  ⟨fun h => by simp [h], fun h o => by cases o <;> simp [h]⟩

theorem ShiftOp.forall_iff {P : ShiftOp → Prop} :
    (∀ o, P o) ↔ P .rlc ∧ P .rrc ∧ P .rl ∧ P .rr ∧ P .sla ∧ P .sra ∧ P .swap ∧ P .srl :=
  ⟨fun h => by simp [h], fun h o => by cases o <;> simp [h]⟩

theorem forall_fin8_iff {P : Fin 8 → Prop} : (∀ b, P b) ↔ P 0 ∧ P 1 ∧ P 2 ∧ P 3 ∧ P 4 ∧ P 5 ∧ P 6 ∧ P 7 := by
  simp [Fin.forall_fin_succ]

/-- The forms an instruction can have: a family of Sys2Proof/Family.lean at its operands, or an instruction of no family. A
proof about every instruction is a proof of these cases. -/
inductive InFamily : Instr → Prop
  | ldRR (dst src : Reg8) : InFamily (Family.ldRR dst src)
  | ldRD8 (r : Reg8) (v : Byte) : InFamily (Family.ldRD8 r v)
  | ldRHl (r : Reg8) : InFamily (Family.ldRHl r)
  | ldHlR (r : Reg8) : InFamily (Family.ldHlR r)
  | ldMemHlD8 (v : Byte) : InFamily (.ldMemHlD8 v)
  | ldAMemBc : InFamily .ldAMemBc
  | ldAMemDe : InFamily .ldAMemDe
  | ldAMemC : InFamily .ldAMemC
  | ldhAMemA8 (o : Byte) : InFamily (.ldhAMemA8 o)
  | ldAMemA16 (a : Word) : InFamily (.ldAMemA16 a)
  | ldMemBcA : InFamily .ldMemBcA
  | ldMemDeA : InFamily .ldMemDeA
  | ldMemCA : InFamily .ldMemCA
  | ldhMemA8A (o : Byte) : InFamily (.ldhMemA8A o)
  | ldMemA16A (a : Word) : InFamily (.ldMemA16A a)
  | ldMemHlIncA : InFamily .ldMemHlIncA
  | ldMemHlDecA : InFamily .ldMemHlDecA
  | ldAMemHlInc : InFamily .ldAMemHlInc
  | ldAMemHlDec : InFamily .ldAMemHlDec
  | ldRpD16 (p : Rp) (v : Word) : InFamily (Family.ldRpD16 p v)
  | ldMemA16Sp (a : Word) : InFamily (.ldMemA16Sp a)
  | ldSpHl : InFamily .ldSpHl
  | ldHlSpE8 (e : Byte) : InFamily (.ldHlSpE8 e)
  | push (p : Pair) : InFamily (Family.push p)
  | pop (p : Pair) : InFamily (Family.pop p)
  | alu (op : AluOp) (src : R8) : InFamily (Family.alu op src)
  | aluD8 (op : AluOp) (v : Byte) : InFamily (Family.aluD8 op v)
  | inc (o : R8) : InFamily (Family.inc o)
  | dec (o : R8) : InFamily (Family.dec o)
  | daa : InFamily .daa
  | cpl : InFamily .cpl
  | scf : InFamily .scf
  | ccf : InFamily .ccf
  | incRp (p : Rp) : InFamily (Family.incRp p)
  | decRp (p : Rp) : InFamily (Family.decRp p)
  | addHl (p : Rp) : InFamily (Family.addHl p)
  | addSpE8 (e : Byte) : InFamily (.addSpE8 e)
  | rlca : InFamily .rlca
  | rrca : InFamily .rrca
  | rla : InFamily .rla
  | rra : InFamily .rra
  | shift (op : ShiftOp) (o : R8) : InFamily (Family.shift op o)
  | bit (b : Fin 8) (o : R8) : InFamily (Family.bit b o)
  | res (b : Fin 8) (o : R8) : InFamily (Family.res b o)
  | set (b : Fin 8) (o : R8) : InFamily (Family.set b o)
  | jp (a : Word) : InFamily (.jp a)
  | jpHl : InFamily .jpHl
  | jr (e : Byte) : InFamily (.jr e)
  | jpCc (cc : Cond) (a : Word) : InFamily (Family.jpCc cc a)
  | jrCc (cc : Cond) (e : Byte) : InFamily (Family.jrCc cc e)
  | call (a : Word) : InFamily (.call a)
  | callCc (cc : Cond) (a : Word) : InFamily (Family.callCc cc a)
  | rst (t : Fin 8) : InFamily (Family.rst t)
  | ret : InFamily .ret
  | reti : InFamily .reti
  | retCc (cc : Cond) : InFamily (Family.retCc cc)
  | nop : InFamily .nop
  | halt : InFamily .halt
  | stop (x : Byte) : InFamily (.stop x)
  | di : InFamily .di
  | ei : InFamily .ei
  | undefined (op : Byte) : InFamily (.undefined op)
  | prefixCb : InFamily .prefixCb

/-- Every instruction has one of the forms: once each family is written out operand by operand, a constructor is one of its
members (a hypothesis) or a form of no family. -/
theorem inFamily (i : Instr) : InFamily i := by
  have families :=
    And.intro InFamily.ldRR <| And.intro InFamily.ldRD8 <| And.intro InFamily.ldRHl <| And.intro InFamily.ldHlR <|
    And.intro InFamily.alu <| And.intro InFamily.aluD8 <| And.intro InFamily.inc <| And.intro InFamily.dec <|
    And.intro InFamily.ldRpD16 <| And.intro InFamily.incRp <| And.intro InFamily.decRp <| And.intro InFamily.addHl <|
    And.intro InFamily.push <| And.intro InFamily.pop <| And.intro InFamily.shift <| And.intro InFamily.bit <|
    And.intro InFamily.res <| And.intro InFamily.set <| And.intro InFamily.jpCc <| And.intro InFamily.jrCc <|
    And.intro InFamily.callCc <| And.intro InFamily.rst InFamily.retCc
  simp only [Reg8.forall_iff, R8.forall_iff, Pair.forall_iff, Rp.forall_iff, Cond.forall_iff, AluOp.forall_iff,
    ShiftOp.forall_iff, forall_fin8_iff, Family.ldRR, Family.ldRD8, Family.ldRHl, Family.ldHlR, Family.alu,
    Family.aluD8, Family.inc, Family.dec, Family.ldRpD16, Family.incRp, Family.decRp, Family.addHl, Family.push,
    Family.pop, Family.shift, Family.bit, Family.res, Family.set, Family.jpCc, Family.jrCc, Family.callCc,
    Family.rst, Family.retCc] at families
  casesm* _ ∧ _
  cases i <;> first | apply_assumption | constructor

end Sys2Proof
end

section
/-! SUPPORT. exec of each family, and the operations that leave the sequencer state, halted and IME alone. -/
namespace Sys2Proof.Machine

/-! What exec answers for each family: the cost and the shared operation at the family's operands. -/

/-- The accumulator operation an operation code names (R180). -/
def aluMeaning : AluOp → Byte → State → State
  | .add => addA
  | .adc => adcA
  | .sub => subA
  | .sbc => sbcA
  | .and => andA
  | .xor => xorA
  | .or => orA
  | .cp => cpA

/-- The rotate or shift an operation code names (R110). -/
def shiftMeaning : ShiftOp → Byte → Flags → Byte × Bool
  | .rlc => opRlc
  | .rrc => opRrc
  | .rl => opRl
  | .rr => opRr
  | .sla => opSla
  | .sra => opSra
  | .swap => opSwap
  | .srl => opSrl

section
variable (s : State)

theorem exec_ldRR (dst src : Reg8) : exec (Family.ldRR dst src) s = finish 4 (writeReg dst (readReg src s) s) := by
  cases dst <;> cases src <;> rfl
theorem exec_ldRD8 (r : Reg8) (v : Byte) : exec (Family.ldRD8 r v) s = finish 8 (writeReg r v s) := by
  cases r <;> rfl
theorem exec_ldRHl (r : Reg8) : exec (Family.ldRHl r) s = finish 8 (loadFrom r (readPair .hl s) s) := by
  cases r <;> rfl
theorem exec_ldHlR (r : Reg8) : exec (Family.ldHlR r) s = finish 8 (writeByte (readPair .hl s) (readReg r s) s) := by
  cases r <;> rfl
theorem exec_ldRpD16 (p : Rp) (v : Word) : exec (Family.ldRpD16 p v) s = finish 12 (writeRp p v s) := by
  cases p <;> rfl
theorem exec_push (p : Pair) : exec (Family.push p) s = finish 16 (push16 (readPair p s) s) := by
  cases p <;> rfl
theorem exec_pop (p : Pair) : exec (Family.pop p) s = finish 12 (popPair p s) := by
  cases p <;> rfl
theorem exec_alu (op : AluOp) (src : R8) :
    exec (Family.alu op src) s = finish (if src = .hl then 8 else 4) (aluFrom (aluMeaning op) src s) := by
  cases op <;> cases src <;> rfl
theorem exec_aluD8 (op : AluOp) (v : Byte) : exec (Family.aluD8 op v) s = finish 8 (aluMeaning op v s) := by
  cases op <;> rfl
theorem exec_inc (o : R8) : exec (Family.inc o) s = finish (if o = .hl then 12 else 4) (incR8 o s) := by
  cases o <;> rfl
theorem exec_dec (o : R8) : exec (Family.dec o) s = finish (if o = .hl then 12 else 4) (decR8 o s) := by
  cases o <;> rfl
theorem exec_incRp (p : Rp) : exec (Family.incRp p) s = finish 8 (writeRp p (readRp p s + 1) s) := by
  cases p <;> rfl
theorem exec_decRp (p : Rp) : exec (Family.decRp p) s = finish 8 (writeRp p (readRp p s - 1) s) := by
  cases p <;> rfl
theorem exec_addHl (p : Rp) : exec (Family.addHl p) s = finish 8 (addHl p s) := by
  cases p <;> rfl
theorem exec_shift (op : ShiftOp) (o : R8) :
    exec (Family.shift op o) s = finish (if o = .hl then 16 else 8) (shiftR8 (shiftMeaning op) o s) := by
  cases op <;> cases o <;> rfl
theorem exec_bit (b : Fin 8) (o : R8) :
    exec (Family.bit b o) s = finish (if o = .hl then 12 else 8) (bitTest b o s) := by
  fin_cases b <;> cases o <;> rfl
theorem exec_res (b : Fin 8) (o : R8) :
    exec (Family.res b o) s = finish (if o = .hl then 16 else 8) (bitUpdate resetBit b o s) := by
  fin_cases b <;> cases o <;> rfl
theorem exec_set (b : Fin 8) (o : R8) :
    exec (Family.set b o) s = finish (if o = .hl then 16 else 8) (bitUpdate setBit b o s) := by
  fin_cases b <;> cases o <;> rfl
theorem exec_jpCc (cc : Cond) (a : Word) : exec (Family.jpCc cc a) s = finishCond 12 4 (jumpIf cc a s) := by
  cases cc <;> rfl
theorem exec_jrCc (cc : Cond) (e : Byte) :
    exec (Family.jrCc cc e) s = finishCond 8 4 (jumpIf cc (s.rf.pc + sext8 e) s) := by
  cases cc <;> rfl
theorem exec_callCc (cc : Cond) (a : Word) : exec (Family.callCc cc a) s = finishCond 12 12 (callIf cc a s) := by
  cases cc <;> rfl
theorem exec_retCc (cc : Cond) : exec (Family.retCc cc) s = finishCond 8 12 (returnIf cc s) := by
  cases cc <;> rfl
theorem exec_rst (t : Fin 8) : exec (Family.rst t) s = finish 16 (callTo (BitVec.ofNat 16 (8 * t.val)) s) := by
  fin_cases t <;> rfl

end

/-! The operations that leave the sequencer state, halted and IME alone. -/

/-- How an operation on registers, flags and memory may move the state: as Evolves allows, with the sequencer state, halted and
IME kept (R35 to R37). -/
structure DataOp (s t : State) : Prop extends Evolves s t where
  seq : t.seq = s.seq
  haltedKept : t.halted = s.halted
  ime : t.ime = s.ime

theorem dataOp_refl (s : State) : DataOp s s := ⟨evolves_refl s, rfl, rfl, rfl⟩

theorem dataOp_trans {s t u : State} (h : DataOp s t) (k : DataOp t u) : DataOp s u :=
  ⟨evolves_trans h.toEvolves k.toEvolves, k.seq.trans h.seq, k.haltedKept.trans h.haltedKept, k.ime.trans h.ime⟩

section
variable (s : State)

theorem dataOp_setFlags (f : Flags) : DataOp s (setFlags f s) := ⟨evolves_setFlags s f, rfl, rfl, rfl⟩
theorem dataOp_setPc (v : Word) : DataOp s (setPc v s) := ⟨evolves_setPc s v, rfl, rfl, rfl⟩
theorem dataOp_setSp (v : Word) : DataOp s (setSp v s) := ⟨evolves_setSp s v, rfl, rfl, rfl⟩
theorem dataOp_charge (n : Nat) : DataOp s (charge n s) := ⟨evolves_charge s n, rfl, rfl, rfl⟩
theorem dataOp_emit (e : Event) : DataOp s (emit e s) := ⟨evolves_emit s e, rfl, rfl, rfl⟩
theorem dataOp_writeReg (r : Reg8) (v : Byte) : DataOp s (writeReg r v s) := ⟨evolves_writeReg s r v, rfl, rfl, rfl⟩
theorem dataOp_writePair (p : Pair) (v : Word) : DataOp s (writePair p v s) := ⟨evolves_writePair s p v, rfl, rfl, rfl⟩
theorem dataOp_readByte (a : Word) : DataOp s (readByte a s).2 := ⟨evolves_readByte s a, rfl, rfl, rfl⟩
theorem dataOp_writeByte (a : Word) (v : Byte) : DataOp s (writeByte a v s) :=
  ⟨evolves_writeByte s a v, by simp, by simp, by simp⟩
theorem dataOp_writeWord (a v : Word) : DataOp s (writeWord a v s) :=
  dataOp_trans (dataOp_writeByte s a _) (dataOp_writeByte _ _ _)
theorem dataOp_fetch8 : DataOp s (fetch8 s).2 := ⟨evolves_fetch8 s, rfl, rfl, rfl⟩
theorem dataOp_fetch16 : DataOp s (fetch16 s).2 := dataOp_trans (dataOp_fetch8 s) (dataOp_fetch8 _)
theorem dataOp_push16 (v : Word) : DataOp s (push16 v s) := ⟨evolves_push16 s v, by simp, by simp, by simp⟩
theorem dataOp_pop16 : DataOp s (pop16 s).2 := ⟨evolves_pop16 s, rfl, rfl, rfl⟩
theorem dataOp_readR8 (o : R8) : DataOp s (readR8 o s).2 := ⟨evolves_readR8 s o, by simp, by simp, by simp⟩

theorem dataOp_writeR8 (o : R8) (v : Byte) : DataOp s (writeR8 o v s) := by
  cases o with
  | hl => exact dataOp_writeByte s _ v
  | _ => exact dataOp_writeReg s _ v

theorem dataOp_writeRp (p : Rp) (v : Word) : DataOp s (writeRp p v s) := by
  cases p with
  | sp => exact dataOp_setSp s v
  | _ => exact dataOp_writePair s _ v

/-! The operations the meanings share. -/

/-- A result in a register, with its flags (R26). -/
theorem dataOp_setFlags_writeReg (f : Flags) (r : Reg8) (v : Byte) : DataOp s (setFlags f (writeReg r v s)) :=
  dataOp_trans (dataOp_writeReg s r v) (dataOp_setFlags _ f)

theorem dataOp_loadFrom (r : Reg8) (a : Word) : DataOp s (loadFrom r a s) :=
  dataOp_trans (dataOp_readByte s a) (dataOp_writeReg _ r _)
theorem dataOp_storeAThenHl (f : Word → Word) : DataOp s (storeAThenHl f s) :=
  dataOp_trans (dataOp_writeByte s _ _) (dataOp_writePair _ .hl _)
theorem dataOp_loadAThenHl (f : Word → Word) : DataOp s (loadAThenHl f s) :=
  dataOp_trans (dataOp_loadFrom s .a _) (dataOp_writePair _ .hl _)
theorem dataOp_hlFromSpPlus (e : Byte) : DataOp s (hlFromSpPlus e s) :=
  dataOp_trans (dataOp_writePair s .hl _) (dataOp_setFlags _ _)
theorem dataOp_popPair (p : Pair) : DataOp s (popPair p s) := dataOp_trans (dataOp_pop16 s) (dataOp_writePair _ p _)
theorem dataOp_addHl (p : Rp) : DataOp s (addHl p s) := dataOp_trans (dataOp_writePair s .hl _) (dataOp_setFlags _ _)
theorem dataOp_addSp (e : Byte) : DataOp s (addSp e s) := dataOp_trans (dataOp_setSp s _) (dataOp_setFlags _ _)
theorem dataOp_incR8 (o : R8) : DataOp s (incR8 o s) :=
  dataOp_trans (dataOp_trans (dataOp_readR8 s o) (dataOp_writeR8 _ o _)) (dataOp_setFlags _ _)
theorem dataOp_decR8 (o : R8) : DataOp s (decR8 o s) :=
  dataOp_trans (dataOp_trans (dataOp_readR8 s o) (dataOp_writeR8 _ o _)) (dataOp_setFlags _ _)
theorem dataOp_shiftR8 (op : Byte → Flags → Byte × Bool) (o : R8) : DataOp s (shiftR8 op o s) :=
  dataOp_trans (dataOp_trans (dataOp_readR8 s o) (dataOp_writeR8 _ o _)) (dataOp_setFlags _ _)
theorem dataOp_bitTest (b : Nat) (o : R8) : DataOp s (bitTest b o s) :=
  dataOp_trans (dataOp_readR8 s o) (dataOp_setFlags _ _)
theorem dataOp_bitUpdate (op : Byte → Nat → Byte) (b : Nat) (o : R8) : DataOp s (bitUpdate op b o s) :=
  dataOp_trans (dataOp_readR8 s o) (dataOp_writeR8 _ o _)
theorem dataOp_callTo (a : Word) : DataOp s (callTo a s) := dataOp_trans (dataOp_push16 s _) (dataOp_setPc _ a)
theorem dataOp_popPc : DataOp s (popPc s) := dataOp_trans (dataOp_pop16 s) (dataOp_setPc _ _)

/-- A conditional behaviour: what it does when the condition holds, and nothing when it does not (R14). -/
theorem dataOp_ite {c : Bool} {t : State} (h : DataOp s t) :
    DataOp s (if c then (true, t) else (false, s)).2 := by
  cases c
  · exact dataOp_refl s
  · exact h

theorem dataOp_jumpIf (cc : Cond) (a : Word) : DataOp s (jumpIf cc a s).2 := dataOp_ite s (dataOp_setPc s a)
theorem dataOp_callIf (cc : Cond) (a : Word) : DataOp s (callIf cc a s).2 := dataOp_ite s (dataOp_callTo s a)
theorem dataOp_returnIf (cc : Cond) : DataOp s (returnIf cc s).2 := dataOp_ite s (dataOp_popPc s)

end

theorem dataOp_aluMeaning (op : AluOp) (v : Byte) (s : State) : DataOp s (aluMeaning op v s) := by
  cases op with
  | cp => exact dataOp_setFlags s _
  | _ => exact dataOp_setFlags_writeReg s _ .a _

theorem dataOp_aluFrom (op : AluOp) (src : R8) (s : State) : DataOp s (aluFrom (aluMeaning op) src s) :=
  dataOp_trans (dataOp_readR8 s src) (dataOp_aluMeaning op _ _)

end Sys2Proof.Machine
end

section
/-! SUPPORT. What exec and step keep of a state; the statements about every step. -/
namespace Sys2Proof.Machine

/-! What exec does to the state beside its result. -/

/-- The instructions that write the sequencer state, halted or IME (R35 to R37). -/
def writesControlState : Instr → Bool
  | .halt | .stop _ | .di | .ei | .reti | .prefixCb => true
  | _ => false

/-- `r` is a next state that a data operation from `s` reaches. -/
def EndsAsDataOp (s : State) (r : Result) : Prop := ∃ t, r = .next t ∧ DataOp s t

theorem endsAsDataOp_finish {s t : State} (n : Nat) (h : DataOp s t) : EndsAsDataOp s (finish n t) :=
  ⟨_, rfl, dataOp_trans h (dataOp_charge t n)⟩

theorem endsAsDataOp_finishCond {s : State} (n k : Nat) {r : Bool × State} (h : DataOp s r.2) :
    EndsAsDataOp s (finishCond n k r) :=
  ⟨_, rfl, dataOp_trans h (dataOp_charge _ _)⟩

/-- Every instruction that does not write control state is a data operation. -/
theorem exec_endsAsDataOp {i : Instr} (h : writesControlState i = false) (s : State) : EndsAsDataOp s (exec i s) := by
  cases inFamily i with
  | halt | stop | di | ei | reti | prefixCb => cases h
  | ldRR dst src => rw [exec_ldRR]; exact endsAsDataOp_finish _ (dataOp_writeReg s dst _)
  | ldRD8 r v => rw [exec_ldRD8]; exact endsAsDataOp_finish _ (dataOp_writeReg s r v)
  | ldRHl r => rw [exec_ldRHl]; exact endsAsDataOp_finish _ (dataOp_loadFrom s r _)
  | ldHlR r => rw [exec_ldHlR]; exact endsAsDataOp_finish _ (dataOp_writeByte s _ _)
  | ldAMemBc | ldAMemDe | ldAMemC | ldhAMemA8 | ldAMemA16 => exact endsAsDataOp_finish _ (dataOp_loadFrom s .a _)
  | ldMemHlD8 | ldMemBcA | ldMemDeA | ldMemCA | ldhMemA8A | ldMemA16A =>
    exact endsAsDataOp_finish _ (dataOp_writeByte s _ _)
  | ldMemHlIncA | ldMemHlDecA => exact endsAsDataOp_finish _ (dataOp_storeAThenHl s _)
  | ldAMemHlInc | ldAMemHlDec => exact endsAsDataOp_finish _ (dataOp_loadAThenHl s _)
  | ldRpD16 p v => rw [exec_ldRpD16]; exact endsAsDataOp_finish _ (dataOp_writeRp s p v)
  | ldMemA16Sp a => exact endsAsDataOp_finish _ (dataOp_writeWord s a _)
  | ldSpHl => exact endsAsDataOp_finish _ (dataOp_setSp s _)
  | ldHlSpE8 e => exact endsAsDataOp_finish _ (dataOp_hlFromSpPlus s e)
  | push p => rw [exec_push]; exact endsAsDataOp_finish _ (dataOp_push16 s _)
  | pop p => rw [exec_pop]; exact endsAsDataOp_finish _ (dataOp_popPair s p)
  | alu op src => rw [exec_alu]; exact endsAsDataOp_finish _ (dataOp_aluFrom op src s)
  | aluD8 op v => rw [exec_aluD8]; exact endsAsDataOp_finish _ (dataOp_aluMeaning op v s)
  | inc o => rw [exec_inc]; exact endsAsDataOp_finish _ (dataOp_incR8 s o)
  | dec o => rw [exec_dec]; exact endsAsDataOp_finish _ (dataOp_decR8 s o)
  | daa | cpl => exact endsAsDataOp_finish _ (dataOp_setFlags_writeReg s _ .a _)
  | scf | ccf => exact endsAsDataOp_finish _ (dataOp_setFlags s _)
  | incRp p => rw [exec_incRp]; exact endsAsDataOp_finish _ (dataOp_writeRp s p _)
  | decRp p => rw [exec_decRp]; exact endsAsDataOp_finish _ (dataOp_writeRp s p _)
  | addHl p => rw [exec_addHl]; exact endsAsDataOp_finish _ (dataOp_addHl s p)
  | addSpE8 e => exact endsAsDataOp_finish _ (dataOp_addSp s e)
  | rlca | rrca | rla | rra => exact endsAsDataOp_finish _ (dataOp_setFlags_writeReg s _ .a _)
  | shift op o => rw [exec_shift]; exact endsAsDataOp_finish _ (dataOp_shiftR8 s _ o)
  | bit b o => rw [exec_bit]; exact endsAsDataOp_finish _ (dataOp_bitTest s b o)
  | res b o => rw [exec_res]; exact endsAsDataOp_finish _ (dataOp_bitUpdate s _ b o)
  | set b o => rw [exec_set]; exact endsAsDataOp_finish _ (dataOp_bitUpdate s _ b o)
  | jp | jpHl | jr => exact endsAsDataOp_finish _ (dataOp_setPc s _)
  | jpCc cc a => rw [exec_jpCc]; exact endsAsDataOp_finishCond _ _ (dataOp_jumpIf s cc a)
  | jrCc cc e => rw [exec_jrCc]; exact endsAsDataOp_finishCond _ _ (dataOp_jumpIf s cc _)
  | call a => exact endsAsDataOp_finish _ (dataOp_callTo s a)
  | callCc cc a => rw [exec_callCc]; exact endsAsDataOp_finishCond _ _ (dataOp_callIf s cc a)
  | rst t => rw [exec_rst]; exact endsAsDataOp_finish _ (dataOp_callTo s _)
  | ret => exact endsAsDataOp_finish _ (dataOp_popPc s)
  | retCc cc => rw [exec_retCc]; exact endsAsDataOp_finishCond _ _ (dataOp_returnIf s cc)
  | nop => exact endsAsDataOp_finish _ (dataOp_refl s)
  | undefined op => exact endsAsDataOp_finish _ (dataOp_emit s _)

/-- The extended half of a step is exec of an extended entry at the state after its opcode is fetched (R133, R134). -/
theorem extendedStep_eq_exec (s : State) :
    extendedStep s = exec (extendedInstr (fetch8 s).1) (setSeq .fetchPrimary (fetch8 s).2) :=
  congrFun (extendedMeaning_eq_exec _) _

/-- No extended entry writes the sequencer state, halted or IME. -/
theorem writesControlState_extendedInstr : ∀ op2 : Byte, writesControlState (extendedInstr op2) = false := by decide

/-- The extended half of a step: a data operation, then fetch-primary (R37). -/
theorem extendedStep_effect (s : State) : ∃ t, extendedStep s = .next t ∧ Evolves s t ∧ t.seq = .fetchPrimary ∧
    t.halted = s.halted ∧ t.ime = s.ime := by
  have hf := dataOp_fetch8 s
  obtain ⟨t, ht, hd⟩ := exec_endsAsDataOp (writesControlState_extendedInstr (fetch8 s).1)
    (setSeq .fetchPrimary (fetch8 s).2)
  refine ⟨t, (extendedStep_eq_exec s).trans ht, ?_, hd.seq, hd.haltedKept.trans hf.haltedKept, hd.ime.trans hf.ime⟩
  exact evolves_trans hf.toEvolves (evolves_trans (evolves_setSeq _ _) hd.toEvolves)

/-- What exec of an instruction does to any state: as Evolves allows, fetch-primary is kept, and a change of halted or IME names
its instruction (R35 to R37). -/
structure Effect (i : Instr) (s t : State) : Prop extends Evolves s t where
  seq : s.seq = .fetchPrimary → t.seq = .fetchPrimary
  haltedWriter : t.halted ≠ s.halted → i = .halt ∨ ∃ x, i = .stop x
  imeWriter : t.ime ≠ s.ime → i = .di ∨ i = .ei ∨ i = .reti

theorem writer_of_writesControlState {i : Instr} (h : writesControlState i = true) :
    i = .halt ∨ (∃ x, i = .stop x) ∨ i = .di ∨ i = .ei ∨ i = .reti ∨ i = .prefixCb := by
  unfold writesControlState at h
  split at h <;> simp at h ⊢

theorem evolves_charge_of {s t : State} (n : Nat) (h : Evolves s t) : Evolves s (charge n t) :=
  evolves_trans h (evolves_charge t n)

/-- Every instruction answers a next state, and it has this effect. -/
theorem exec_effect (i : Instr) (s : State) : ∃ t, exec i s = .next t ∧ Effect i s t := by
  cases h : writesControlState i with
  | false =>
    obtain ⟨t, ht, hd⟩ := exec_endsAsDataOp h s
    exact ⟨t, ht, hd.toEvolves, hd.seq.trans, absurd hd.haltedKept, absurd hd.ime⟩
  | true =>
    rcases writer_of_writesControlState h with rfl | ⟨x, rfl⟩ | rfl | rfl | rfl | rfl
    · exact ⟨_, rfl, evolves_charge_of 4 (evolves_halt s), id, fun _ => .inl rfl, absurd rfl⟩
    · exact ⟨_, rfl, evolves_charge_of 4 (evolves_halt s), id, fun _ => .inr ⟨x, rfl⟩, absurd rfl⟩
    · exact ⟨_, rfl, evolves_charge_of 4 (evolves_setIme s false), id, absurd rfl, fun _ => .inl rfl⟩
    · exact ⟨_, rfl, evolves_charge_of 4 (evolves_setIme s true), id, absurd rfl, fun _ => .inr (.inl rfl)⟩
    · have hpop := dataOp_popPc s
      exact ⟨_, rfl, evolves_charge_of 16 (evolves_trans hpop.toEvolves (evolves_setIme _ true)), hpop.seq.trans,
        absurd hpop.haltedKept, fun _ => .inr (.inr rfl)⟩
    · obtain ⟨t, ht, he, hseq, hhalted, hime⟩ := extendedStep_effect (setSeq .fetchExtended s)
      exact ⟨t, ht, evolves_trans (evolves_setSeq s _) he, fun _ => hseq, absurd hhalted, absurd hime⟩

/-! A step: fetch, then exec (R130). -/

theorem dataOp_fetchOperands (form : Form) (s : State) : DataOp s (fetchOperands form s).2 := by
  cases form with
  | plain i => exact dataOp_refl s
  | byte f => exact dataOp_fetch8 s
  | word f => exact dataOp_fetch16 s

theorem dataOp_fetchInstr (s : State) : DataOp s (fetchInstr s).2 := by
  unfold fetchInstr
  dsimp only
  split
  · exact dataOp_fetch8 s
  · exact dataOp_trans (dataOp_fetch8 s) (dataOp_fetchOperands _ _)

/-- The three kinds of step: halted, in fetch-extended, and the fetch and exec of an instruction (R37, R130, R137). -/
theorem step_cases (s : State) :
    (s.halted = true ∧ step s = finish 4 s) ∨
    (s.halted = false ∧ s.seq = .fetchExtended ∧ step s = extendedStep s) ∨
    (s.halted = false ∧ s.seq = .fetchPrimary ∧ step s = exec (fetchInstr s).1 (fetchInstr s).2) := by
  unfold step
  cases hh : s.halted <;> cases hq : s.seq <;> simp

/-- Every step answers a next state; it evolves from the state it started in, and fetch-primary is kept (R37). -/
theorem step_effect (s : State) :
    ∃ t, step s = .next t ∧ Evolves s t ∧ (s.seq = .fetchPrimary → t.seq = .fetchPrimary) := by
  rcases step_cases s with ⟨-, e⟩ | ⟨-, -, e⟩ | ⟨-, -, e⟩ <;> rw [e]
  · exact ⟨_, rfl, evolves_charge s 4, id⟩
  · obtain ⟨t, ht, he, hseq, -, -⟩ := extendedStep_effect s
    exact ⟨t, ht, he, fun _ => hseq⟩
  · have hf := dataOp_fetchInstr s
    obtain ⟨t, ht, he⟩ := exec_effect (fetchInstr s).1 (fetchInstr s).2
    exact ⟨t, ht, evolves_trans hf.toEvolves he.toEvolves, fun h => he.seq (hf.seq.trans h)⟩

/-- Settles O44: RAM and RAM_INIT by how a step evolves, the sequencer by what a step does to it. -/
theorem stepKeepsTheInvariant : Obligations.StepKeepsTheInvariant := by
  intro s t hs h
  obtain ⟨hram, hinit, hseq⟩ := hs
  obtain ⟨_, ht, he, hq⟩ := step_effect s
  cases ht.symm.trans h
  exact ⟨he.ram hram, he.cfg ▸ hinit, hq hseq⟩

/-- Settles O49, from how a step evolves. -/
theorem whatNoStepUndoes : Obligations.WhatNoStepUndoes := by
  intro s t h
  obtain ⟨_, ht, he, -⟩ := step_effect s
  cases ht.symm.trans h
  exact ⟨he.cfg, he.latch, he.halted, he.events, he.cycles⟩

/-- Settles O51, from the effect of exec, the dispatch entry's included. -/
theorem onlyTheirInstructionsWriteHaltedAndIme : Obligations.OnlyTheirInstructionsWriteHaltedAndIme := by
  intro i s t h
  obtain ⟨_, ht, he⟩ := exec_effect i s
  cases ht.symm.trans h
  exact ⟨he.haltedWriter, he.imeWriter⟩

end Sys2Proof.Machine
end

section
/-! SUPPORT. The flags of every instruction against the listing (R26, R109). -/
namespace Sys2Proof.Machine

/-! The flags columns of the listing. -/

/-- The four columns of a row of the listing, obeyed (R109). -/
def FlagsObeyed (fx : FlagEffects) (before after : Flags) : Prop :=
  flagObeys fx.z before.z after.z ∧ flagObeys fx.n before.n after.n ∧
    flagObeys fx.h before.hf after.hf ∧ flagObeys fx.c before.cf after.cf

/-- The flags column of an instruction's row, none for an undefined opcode (R109, R111). -/
def flagRow (i : Instr) : Option FlagEffects := (descriptorOf i).map Descriptor.flags

theorem flagsObey_iff_of_flagRow {i : Instr} {fx : FlagEffects} (h : flagRow i = some fx) (before after : Flags) :
    flagsObey i before after ↔ FlagsObeyed fx before after := by
  obtain ⟨d, hd, rfl⟩ := Option.map_eq_some_iff.1 h
  simp [flagsObey, FlagsObeyed, hd]

theorem flagsObeyed_fxNone {before after : Flags} (h : after = before) : FlagsObeyed fxNone before after := by
  subst h
  exact ⟨rfl, rfl, rfl, rfl⟩

/-! The row of each family in the listing (R109, R110). -/

theorem flagRow_ldRR (dst src : Reg8) : flagRow (Family.ldRR dst src) = some fxNone := by
  cases dst <;> cases src <;> rfl
theorem flagRow_ldRD8 (r : Reg8) (v : Byte) : flagRow (Family.ldRD8 r v) = some fxNone := by cases r <;> rfl
theorem flagRow_ldRHl (r : Reg8) : flagRow (Family.ldRHl r) = some fxNone := by cases r <;> rfl
theorem flagRow_ldHlR (r : Reg8) : flagRow (Family.ldHlR r) = some fxNone := by cases r <;> rfl
theorem flagRow_ldRpD16 (p : Rp) (v : Word) : flagRow (Family.ldRpD16 p v) = some fxNone := by cases p <;> rfl
theorem flagRow_push (p : Pair) : flagRow (Family.push p) = some fxNone := by cases p <;> rfl
theorem flagRow_pop (p : Pair) : flagRow (Family.pop p) = some (if p = .af then fxZNHC else fxNone) := by
  cases p <;> rfl
theorem flagRow_incRp (p : Rp) : flagRow (Family.incRp p) = some fxNone := by cases p <;> rfl
theorem flagRow_decRp (p : Rp) : flagRow (Family.decRp p) = some fxNone := by cases p <;> rfl
theorem flagRow_addHl (p : Rp) : flagRow (Family.addHl p) = some fxK0HC := by cases p <;> rfl
theorem flagRow_inc (o : R8) : flagRow (Family.inc o) = some fxZ0HK := by cases o <;> rfl
theorem flagRow_dec (o : R8) : flagRow (Family.dec o) = some fxZ1HK := by cases o <;> rfl
theorem flagRow_bit (b : Fin 8) (o : R8) : flagRow (Family.bit b o) = some fxZ00K := by
  fin_cases b <;> cases o <;> rfl
theorem flagRow_res (b : Fin 8) (o : R8) : flagRow (Family.res b o) = some fxNone := by
  fin_cases b <;> cases o <;> rfl
theorem flagRow_set (b : Fin 8) (o : R8) : flagRow (Family.set b o) = some fxNone := by
  fin_cases b <;> cases o <;> rfl
theorem flagRow_jpCc (cc : Cond) (a : Word) : flagRow (Family.jpCc cc a) = some fxNone := by cases cc <;> rfl
theorem flagRow_jrCc (cc : Cond) (e : Byte) : flagRow (Family.jrCc cc e) = some fxNone := by cases cc <;> rfl
theorem flagRow_callCc (cc : Cond) (a : Word) : flagRow (Family.callCc cc a) = some fxNone := by cases cc <;> rfl
theorem flagRow_retCc (cc : Cond) : flagRow (Family.retCc cc) = some fxNone := by cases cc <;> rfl
theorem flagRow_rst (t : Fin 8) : flagRow (Family.rst t) = some fxNone := by fin_cases t <;> rfl

/-- The flags column of an accumulator operation (R109, R181 to R188). -/
def aluEffects : AluOp → FlagEffects
  | .add | .adc => fxZ0HC
  | .sub | .sbc | .cp => fxZ1HC
  | .and => fxZ010
  | .xor | .or => fxZ000

/-- The flags column of an extended rotate or shift (R110, R217 to R224). -/
def shiftEffects : ShiftOp → FlagEffects
  | .swap => fxZ000
  | _ => fxZ00C

theorem flagRow_alu (op : AluOp) (src : R8) : flagRow (Family.alu op src) = some (aluEffects op) := by
  cases op <;> cases src <;> rfl
theorem flagRow_aluD8 (op : AluOp) (v : Byte) : flagRow (Family.aluD8 op v) = some (aluEffects op) := by
  cases op <;> rfl
theorem flagRow_shift (op : ShiftOp) (o : R8) : flagRow (Family.shift op o) = some (shiftEffects op) := by
  cases op <;> cases o <;> rfl

/-! The flags after each shared operation: kept, or as its column says. -/
section
variable (s : State)

@[simp] theorem writeR8_f (o : R8) (v : Byte) : (writeR8 o v s).rf.f = s.rf.f := by
  cases o with
  | hl => exact congrArg RegFile.f (writeByte_rf s _ v)
  | _ => rfl

@[simp] theorem writeRp_f (p : Rp) (v : Word) : (writeRp p v s).rf.f = s.rf.f := by cases p <;> rfl

@[simp] theorem jumpIf_f (cc : Cond) (a : Word) : (jumpIf cc a s).2.rf.f = s.rf.f := by
  unfold jumpIf; split <;> rfl
@[simp] theorem callTo_f (a : Word) : (callTo a s).rf.f = s.rf.f := by simp [callTo]
@[simp] theorem callIf_f (cc : Cond) (a : Word) : (callIf cc a s).2.rf.f = s.rf.f := by
  unfold callIf; split <;> simp
@[simp] theorem returnIf_f (cc : Cond) : (returnIf cc s).2.rf.f = s.rf.f := by
  unfold returnIf; split <;> rfl
@[simp] theorem storeAThenHl_f (f : Word → Word) : (storeAThenHl f s).rf.f = s.rf.f := by
  simp [storeAThenHl, setPair_f]
@[simp] theorem bitUpdate_f (op : Byte → Nat → Byte) (b : Nat) (o : R8) : (bitUpdate op b o s).rf.f = s.rf.f := by
  simp [bitUpdate]

theorem popPair_f {p : Pair} (h : p ≠ .af) : (popPair p s).rf.f = s.rf.f := setPair_f _ p _ h

theorem aluMeaning_obeys (op : AluOp) (v : Byte) : FlagsObeyed (aluEffects op) s.rf.f (aluMeaning op v s).rf.f := by
  cases op with
  | and | xor | or => exact ⟨trivial, rfl, rfl, rfl⟩
  | add | adc | sub | sbc | cp => exact ⟨trivial, rfl, trivial, trivial⟩

theorem shiftR8_obeys (op : ShiftOp) (o : R8) :
    FlagsObeyed (shiftEffects op) s.rf.f (shiftR8 (shiftMeaning op) o s).rf.f := by
  cases op with
  | swap => exact ⟨trivial, rfl, rfl, rfl⟩
  | _ => exact ⟨trivial, rfl, rfl, trivial⟩

end

/-- exec of the instruction moves the flags as its row of the listing says. -/
def FlagsListed (i : Instr) : Prop := ∀ s t : State, exec i s = .next t → flagsObey i s.rf.f t.rf.f

/-- From what exec answers, the instruction's row, and the flags of the operation: a cost touches no flag (R138). -/
theorem flagsListed_of {i : Instr} {fx : FlagEffects} (op : State → State)
    (hexec : ∀ s, ∃ n, exec i s = .next (charge n (op s))) (hrow : flagRow i = some fx)
    (hop : ∀ s, FlagsObeyed fx s.rf.f (op s).rf.f) : FlagsListed i := by
  intro s t h
  obtain ⟨n, hn⟩ := hexec s
  cases hn.symm.trans h
  exact (flagsObey_iff_of_flagRow hrow _ _).2 (hop s)

/-- An operation that leaves the flags alone, at a row that lists no flag. -/
theorem flagsListed_of_kept {i : Instr} (op : State → State)
    (hexec : ∀ s, ∃ n, exec i s = .next (charge n (op s))) (hrow : flagRow i = some fxNone)
    (hop : ∀ s, (op s).rf.f = s.rf.f) : FlagsListed i :=
  flagsListed_of op hexec hrow fun s => flagsObeyed_fxNone (hop s)

/-- Every well-formed instruction but the dispatch entry moves the flags as its row says: form by form, the row, what exec
answers, and the flags of the operation. -/
theorem flagsListed {i : Instr} (hwf : i.wellFormed = true) (hi : i ≠ .prefixCb) : FlagsListed i := by
  cases inFamily i with
  | prefixCb => exact absurd rfl hi
  | undefined op =>
    intro s t h
    cases h
    simp [flagsObey, descriptorOf_undefined hwf]
  | ldRR dst src =>
    exact flagsListed_of_kept _ (fun s => ⟨_, exec_ldRR s dst src⟩) (flagRow_ldRR dst src) fun s => by simp
  | ldRD8 r v => exact flagsListed_of_kept _ (fun s => ⟨_, exec_ldRD8 s r v⟩) (flagRow_ldRD8 r v) fun s => by simp
  | ldRHl r => exact flagsListed_of_kept _ (fun s => ⟨_, exec_ldRHl s r⟩) (flagRow_ldRHl r) fun s => set_f _ r _
  | ldHlR r => exact flagsListed_of_kept _ (fun s => ⟨_, exec_ldHlR s r⟩) (flagRow_ldHlR r) fun s => by simp
  | ldAMemBc | ldAMemDe | ldAMemC | ldhAMemA8 | ldAMemA16 | ldAMemHlInc | ldAMemHlDec | ldSpHl | jp | jpHl | jr
  | ret | reti | nop | halt | stop | di | ei => exact flagsListed_of_kept _ (fun s => ⟨_, rfl⟩) rfl fun s => rfl
  | ldMemHlD8 | ldMemBcA | ldMemDeA | ldMemCA | ldhMemA8A | ldMemA16A =>
    exact flagsListed_of_kept _ (fun s => ⟨_, rfl⟩) rfl fun s => congrArg RegFile.f (writeByte_rf s _ _)
  | ldMemA16Sp | ldMemHlIncA | ldMemHlDecA | call => exact flagsListed_of_kept _ (fun s => ⟨_, rfl⟩) rfl fun s => by simp
  | ldRpD16 p v => exact flagsListed_of_kept _ (fun s => ⟨_, exec_ldRpD16 s p v⟩) (flagRow_ldRpD16 p v) fun s => by simp
  | push p => exact flagsListed_of_kept _ (fun s => ⟨_, exec_push s p⟩) (flagRow_push p) fun s => by simp
  | incRp p => exact flagsListed_of_kept _ (fun s => ⟨_, exec_incRp s p⟩) (flagRow_incRp p) fun s => by simp
  | decRp p => exact flagsListed_of_kept _ (fun s => ⟨_, exec_decRp s p⟩) (flagRow_decRp p) fun s => by simp
  | res b o => exact flagsListed_of_kept _ (fun s => ⟨_, exec_res s b o⟩) (flagRow_res b o) fun s => by simp
  | set b o => exact flagsListed_of_kept _ (fun s => ⟨_, exec_set s b o⟩) (flagRow_set b o) fun s => by simp
  | rst t => exact flagsListed_of_kept _ (fun s => ⟨_, exec_rst s t⟩) (flagRow_rst t) fun s => by simp
  | jpCc cc a => exact flagsListed_of_kept _ (fun s => ⟨_, exec_jpCc s cc a⟩) (flagRow_jpCc cc a) fun s => by simp
  | jrCc cc e => exact flagsListed_of_kept _ (fun s => ⟨_, exec_jrCc s cc e⟩) (flagRow_jrCc cc e) fun s => by simp
  | callCc cc a => exact flagsListed_of_kept _ (fun s => ⟨_, exec_callCc s cc a⟩) (flagRow_callCc cc a) fun s => by simp
  | retCc cc => exact flagsListed_of_kept _ (fun s => ⟨_, exec_retCc s cc⟩) (flagRow_retCc cc) fun s => by simp
  | pop p =>
    refine flagsListed_of _ (fun s => ⟨_, exec_pop s p⟩) (flagRow_pop p) fun s => ?_
    split
    · exact ⟨trivial, trivial, trivial, trivial⟩
    · next hp => exact flagsObeyed_fxNone (popPair_f s hp)
  | alu op src =>
    refine flagsListed_of _ (fun s => ⟨_, exec_alu s op src⟩) (flagRow_alu op src) fun s => ?_
    simpa [aluFrom] using aluMeaning_obeys (readR8 src s).2 op (readR8 src s).1
  | aluD8 op v => exact flagsListed_of _ (fun s => ⟨_, exec_aluD8 s op v⟩) (flagRow_aluD8 op v) fun s => aluMeaning_obeys s op v
  | inc o => exact flagsListed_of _ (fun s => ⟨_, exec_inc s o⟩) (flagRow_inc o) fun s => ⟨trivial, rfl, trivial, rfl⟩
  | dec o => exact flagsListed_of _ (fun s => ⟨_, exec_dec s o⟩) (flagRow_dec o) fun s => ⟨trivial, rfl, trivial, rfl⟩
  | addHl p => exact flagsListed_of _ (fun s => ⟨_, exec_addHl s p⟩) (flagRow_addHl p) fun s => ⟨rfl, rfl, trivial, trivial⟩
  | shift op o =>
    exact flagsListed_of _ (fun s => ⟨_, exec_shift s op o⟩) (flagRow_shift op o) fun s => shiftR8_obeys s op o
  | bit b o => exact flagsListed_of _ (fun s => ⟨_, exec_bit s b o⟩) (flagRow_bit b o) fun s => ⟨trivial, rfl, rfl, rfl⟩
  | daa => exact flagsListed_of _ (fun s => ⟨_, rfl⟩) (rfl : _ = some fxZK0C) fun s => ⟨trivial, rfl, rfl, trivial⟩
  | cpl => exact flagsListed_of _ (fun s => ⟨_, rfl⟩) (rfl : _ = some fxK11K) fun s => ⟨rfl, rfl, rfl, rfl⟩
  | scf => exact flagsListed_of _ (fun s => ⟨_, rfl⟩) (rfl : _ = some fxK001) fun s => ⟨rfl, rfl, rfl, rfl⟩
  | ccf => exact flagsListed_of _ (fun s => ⟨_, rfl⟩) (rfl : _ = some fxK00C) fun s => ⟨rfl, rfl, rfl, trivial⟩
  | ldHlSpE8 e => exact flagsListed_of _ (fun s => ⟨_, rfl⟩) (rfl : _ = some fx00HC) fun s => ⟨rfl, rfl, trivial, trivial⟩
  | addSpE8 e => exact flagsListed_of _ (fun s => ⟨_, rfl⟩) (rfl : _ = some fx00HC) fun s => ⟨rfl, rfl, trivial, trivial⟩
  | rlca | rrca | rla | rra =>
    exact flagsListed_of _ (fun s => ⟨_, rfl⟩) (rfl : _ = some fx000C) fun s => ⟨rfl, rfl, rfl, trivial⟩

/-- Settles O53. -/
theorem flagsAreAsListed : Obligations.FlagsAreAsListed :=
  fun _ s t hwf hi h => flagsListed hwf hi s t h

end Sys2Proof.Machine
end

section
/-! SUPPORT. Reset, power-on, the register file's operations and the pair views. -/
namespace Sys2Proof.Machine

/-! Reset and power-on (R290, R291). -/

/-- The state of a configuration meets the invariant where RAM_INIT is canonical (R290). -/
theorem ofConfig_inv {cfg : Config} (h : Memory.wf cfg.ramInit = true) : (State.ofConfig cfg).Inv := ⟨h, h, rfl⟩

theorem powerOn_refused {bios : List Byte} (rom : List Byte) (pad : Byte) (ram : List Host.Cell)
    (h : bios.length ≠ 256) : powerOn bios rom pad ram = .refused (.biosLength bios.length) := dif_neg h

theorem powerOn_next {bios : List Byte} (rom : List Byte) (pad : Byte) (ram : List Host.Cell) (h : bios.length = 256) :
    powerOn bios rom pad ram = .next (State.ofConfig
      { bios := ⟨bios.toArray, h⟩, rom := rom, romPad := pad, ramInit := Memory.ofCells ram }) := dif_pos h

/-- Settles O45. -/
theorem resetMeetsTheInvariant : Obligations.ResetMeetsTheInvariant :=
  ⟨ofConfig_inv rfl, fun _ h => ofConfig_inv h⟩

/-- Settles O56. -/
theorem resetValues : Obligations.ResetValues :=
  fun s => ⟨rfl, rfl, rfl, rfl, rfl, rfl, List.prefix_refl s.events⟩

/-- Settles O57: the RAM made of the given cells is canonical, and is the given cells where they are canonical. -/
theorem powerOnWithAConfiguration : Obligations.PowerOnWithAConfiguration := by
  intro bios rom pad ram
  refine ⟨powerOn_refused rom pad ram, fun h => ⟨_, powerOn_next rom pad ram h, rfl, rfl, rfl, rfl, rfl, ?_, ?_⟩⟩
  · exact fun hram => memory_ofCells_of_wf hram
  · exact ofConfig_inv (memory_ofCells_wf ram)

/-! The register file's byte operations, bit by bit or in exact arithmetic (R22, R30). -/

theorem getLsbD_bitMask {b k : Nat} (hk : k < 8) : (0x01#8 <<< b).getLsbD k = decide (k = b) := by
  rw [← BitVec.twoPow_eq, BitVec.getLsbD_twoPow, ← Bool.decide_and, decide_eq_decide]
  omega

theorem getLsbD_setBit (v : Byte) {b k : Nat} (hk : k < 8) :
    (setBit v b).getLsbD k = if k = b then true else v.getLsbD k := by
  rw [setBit, BitVec.getLsbD_or, getLsbD_bitMask hk]
  by_cases h : k = b <;> simp [h]

theorem getLsbD_resetBit (v : Byte) {b k : Nat} (hk : k < 8) :
    (resetBit v b).getLsbD k = if k = b then false else v.getLsbD k := by
  rw [resetBit, BitVec.getLsbD_and, BitVec.getLsbD_not, getLsbD_bitMask hk]
  by_cases h : k = b <;> simp [h, hk]

theorem swapNibbles_eq (v : Byte) : swapNibbles v = BitVec.ofNat 8 (v.toNat % 16 * 16 + v.toNat / 16) := by
  revert v
  decide

theorem shiftLeft_eq (v : Byte) : shiftLeft v = BitVec.ofNat 8 (v.toNat * 2) := by
  revert v
  decide

theorem shiftRightLogical_eq (v : Byte) : shiftRightLogical v = BitVec.ofNat 8 (v.toNat / 2) := by
  revert v
  decide

theorem add_one_eq_ofNat {w : Nat} (v : BitVec w) : v + 1 = BitVec.ofNat w (v.toNat + 1) := by
  simp [BitVec.ofNat_add]

theorem byte_sub_one_eq (v : Byte) : v - 1 = BitVec.ofNat 8 (v.toNat + 255) := by
  bv_omega

theorem word_sub_one_eq (v : Word) : v - 1 = BitVec.ofNat 16 (v.toNat + 65535) := by
  bv_omega

theorem validBitIndex_eq_false {b : Int} (h : b < 0 ∨ 7 < b) : validBitIndex b = false := by
  simp only [validBitIndex, Bool.and_eq_false_iff, decide_eq_false_iff_not]
  omega

theorem validBitIndex_fin (b : Fin 8) : validBitIndex b.val = true := by
  simp only [validBitIndex, Bool.and_eq_true, decide_eq_true_eq]
  omega

/-- Settles O58. -/
theorem registerFileOperations : Obligations.RegisterFileOperations := by
  intro r s
  refine ⟨fun b hb => ?_, fun b => ?_, ?_, ?_, ?_, ?_, ?_⟩
  · have hv := validBitIndex_eq_false hb
    exact ⟨regBitOp_invalid s setBit r hv, regBitOp_invalid s resetBit r hv, if_neg (by simp [hv])⟩
  · have hv := validBitIndex_fin b
    exact ⟨⟨setBit (s.rf.get r) b, fun k hk => getLsbD_setBit _ hk, regBitOp_valid s setBit r hv⟩,
      ⟨resetBit (s.rf.get r) b, fun k hk => getLsbD_resetBit _ hk, regBitOp_valid s resetBit r hv⟩, if_pos hv⟩
  · dsimp only
    rw [← swapNibbles_eq, ← shiftLeft_eq, ← shiftRightLogical_eq, ← add_one_eq_ofNat, ← byte_sub_one_eq]
    exact ⟨rfl, rfl, rfl, rfl, rfl, rfl⟩
  · rw [← add_one_eq_ofNat]; rfl
  · rw [← word_sub_one_eq]; rfl
  · rw [← add_one_eq_ofNat]; rfl
  · rw [← word_sub_one_eq]; rfl

/-! The pair views (R23, R25, R28, R29). -/

theorem mkWord_toNat (hi lo : Byte) : (mkWord hi lo).toNat = hi.toNat * 256 + lo.toNat := by
  rw [mkWord, BitVec.toNat_append, ← Nat.shiftLeft_add_eq_or_of_lt lo.isLt, Nat.shiftLeft_eq]

theorem hiByte_eq (v : Word) : hiByte v = BitVec.ofNat 8 (v.toNat / 256) := by
  simp [hiByte, BitVec.extractLsb', Nat.shiftRight_eq_div_pow]

theorem loByte_eq (v : Word) : loByte v = BitVec.ofNat 8 v.toNat := by
  simp [loByte, BitVec.extractLsb']

theorem mkWord_hiByte_loByte (v : Word) : mkWord (hiByte v) (loByte v) = v := by
  apply BitVec.eq_of_toNat_eq
  rw [mkWord_toNat, hiByte_eq, loByte_eq]
  simp only [BitVec.toNat_ofNat]
  omega

theorem toByte_toNat (f : Flags) :
    (Flags.toByte f).toNat = 128 * f.z.toNat + 64 * f.n.toNat + 32 * f.hf.toNat + 16 * f.cf.toNat := by
  obtain ⟨z, n, hf, cf⟩ := f
  revert z n hf cf
  decide

theorem toByte_ofByte_toNat (v : Byte) : (Flags.toByte (Flags.ofByte v)).toNat = v.toNat - v.toNat % 16 := by
  revert v
  decide

theorem testBit_eq (v : Byte) (b : Nat) : testBit v b = decide (v.toNat / 2 ^ b % 2 = 1) :=
  Nat.testBit_eq_decide_div_mod_eq

theorem setPair_eq_spec (p : Pair) (v : Word) (rf : RegFile) : rf.setPair p v = Spec.setPair p v.toNat rf := by
  cases p with
  | af =>
    have hf : Flags.ofByte (loByte v) = (Spec.setPair .af v.toNat rf).f := by
      simp only [Flags.ofByte, testBit_eq, loByte_eq, BitVec.toNat_ofNat, Spec.setPair, Flags.mk.injEq, decide_eq_decide]
      omega
    simp only [RegFile.setPair, hf, hiByte_eq]
    rfl
  | _ => simp only [RegFile.setPair, Spec.setPair, hiByte_eq, loByte_eq]

theorem pair_setPair (p : Pair) (h : p ≠ .af) (v : Word) (rf : RegFile) : (rf.setPair p v).pair p = v := by
  cases p with
  | af => exact absurd rfl h
  | _ => exact mkWord_hiByte_loByte v

theorem pair_setPair_af_toNat (v : Word) (rf : RegFile) :
    ((rf.setPair .af v).pair .af).toNat = v.toNat - v.toNat % 16 := by
  rw [RegFile.pair, mkWord_toNat]
  simp only [RegFile.setPair, toByte_ofByte_toNat, hiByte_eq, loByte_eq, BitVec.toNat_ofNat]
  omega

/-- Settles O59. -/
theorem pairViews : Obligations.PairViews := by
  intro p v rf
  refine ⟨?_, mkWord_toNat rf.b rf.c, mkWord_toNat rf.d rf.e, mkWord_toNat rf.h rf.l, setPair_eq_spec p v rf, ?_⟩
  · rw [← toByte_toNat]
    exact mkWord_toNat rf.a _
  · split
    · next hp => subst hp; exact pair_setPair_af_toNat v rf
    · next hp => rw [pair_setPair p hp]

end Sys2Proof.Machine
end

section
/-! SUPPORT. The address map by ranges of the address, and the byte and word accesses over it. -/
namespace Sys2Proof.Machine

/-! The decoder by ranges (R61 to R64, R69, R70, R74). -/

/-- The regions an address can be decoded to, each with its bounds (R64). -/
inductive Spans (n : Nat) : Region → Prop
  | rom (hi : n < 0x8000) : Spans n .rom
  | graphics (lo : 0x8000 ≤ n) (hi : n < 0xA000) : Spans n .graphics
  | eram (lo : 0xA000 ≤ n) (hi : n < 0xC000) : Spans n .eram
  | wram (lo : 0xC000 ≤ n) (hi : n < 0xE000) : Spans n .wram
  | wramMirror (lo : 0xE000 ≤ n) (hi : n < 0xFE00) : Spans n .wramMirror
  | oam (lo : 0xFE00 ≤ n) (hi : n < 0xFEA0) : Spans n .oam
  | unusable (lo : 0xFEA0 ≤ n) (hi : n < 0xFF00) : Spans n .unusable
  | io (lo : 0xFF00 ≤ n) (hi : n < 0xFF80) : Spans n .io
  | zram (lo : 0xFF80 ≤ n) (hi : n < 0x10000) : Spans n .zram

/-- The nibble tests of the decoder give the bounds of the map (R61, R62, R64). -/
theorem spans_region (a : Word) : Spans a.toNat (region a) := by
  have ha := a.isLt
  unfold region
  dsimp only
  split_ifs <;> constructor <;> omega

theorem region_eq_rom_iff (a : Word) : region a = .rom ↔ a.toNat < 0x8000 := by
  have h := spans_region a
  generalize region a = r at h ⊢
  cases h <;> simp only [reduceCtorEq, true_iff, false_iff] <;> omega

/-- The RAM byte an address reaches, by the bounds of the map: the mirror is 0x2000 above the byte it shares (R70). -/
theorem ramKey_eq (a : Word) : ramKey a =
    if a.toNat < 0xA000 then none
    else if a.toNat < 0xE000 then some a.toNat
    else if a.toNat < 0xFE00 then some (a.toNat - 0x2000)
    else if a.toNat < 0xFF80 then none
    else some a.toNat := by
  have h := spans_region a
  unfold ramKey
  generalize region a = r at h ⊢
  cases h with
  | rom | graphics => rw [if_pos (by omega)]
  | eram | wram =>
    rw [if_neg (by omega), if_pos (by omega)]
    exact congrArg some (by omega)
  | wramMirror =>
    rw [if_neg (by omega), if_neg (by omega), if_pos (by omega)]
    exact congrArg some (by omega)
  | oam | unusable | io => rw [if_neg (by omega), if_neg (by omega), if_neg (by omega), if_pos (by omega)]
  | zram =>
    rw [if_neg (by omega), if_neg (by omega), if_neg (by omega), if_neg (by omega)]
    exact congrArg some (by omega)

/-- The mirror reaches the bytes of working RAM (R70). -/
theorem ramKey_mirror {k : Nat} (hk : k ≤ 0x1DFF) :
    ramKey (BitVec.ofNat 16 (0xE000 + k)) = ramKey (BitVec.ofNat 16 (0xC000 + k)) := by
  have hmirror : (BitVec.ofNat 16 (0xE000 + k)).toNat = 0xE000 + k := Nat.mod_eq_of_lt (by omega)
  have hwram : (BitVec.ofNat 16 (0xC000 + k)).toNat = 0xC000 + k := Nat.mod_eq_of_lt (by omega)
  rw [ramKey_eq, ramKey_eq, hmirror, hwram, if_neg (by omega), if_neg (by omega), if_pos (by omega), if_neg (by omega),
    if_pos (by omega)]
  exact congrArg some (by omega)

/-! Byte reads (R62, R65, R66, R68, R71 to R73). -/

theorem overlaid_iff {b : Bus} {a : Word} : b.overlaid a = true ↔ a.toNat < 0x0100 ∧ b.biosOverlay = true := by
  simp [Bus.overlaid, and_comm]

/-- A read is the ROM's below 0x8000, and else the RAM byte, or 0x00 where the address reaches none. -/
theorem peek_eq (b : Bus) (a : Word) :
    b.peek a = if a.toNat < 0x8000 then b.romRead a else (ramKey a).elim 0x00#8 (Memory.read b.ram) := by
  simp only [Bus.peek, ramKey, ← region_eq_rom_iff]
  cases region a <;> rfl

/-- The bus after a read, by the range of the address (R66). -/
theorem touch_eq (b : Bus) (a : Word) :
    b.touch a = { b with biosOverlay := if 0x0100 ≤ a.toNat ∧ a.toNat ≤ 0x7FFF then false else b.biosOverlay } := by
  obtain ⟨cfg, ram, latch⟩ := b
  cases latch with
  | false => simp [Bus.touch]
  | true =>
    simp only [Bus.touch, Bool.true_and, Bool.and_eq_true, decide_eq_true_eq]
    split <;> rfl

/-- The byte a read returns, by the bounds of the map. -/
theorem peek_by_range (b : Bus) (a : Word) : b.peek a =
    if a.toNat < 0x0100 ∧ b.biosOverlay = true then b.cfg.bios.get (Fin.ofNat 256 a.toNat)
    else if a.toNat < 0x8000 then b.cfg.rom.getD a.toNat b.cfg.romPad
    else if a.toNat < 0xA000 then 0x00#8
    else if a.toNat < 0xE000 then Memory.read b.ram a.toNat
    else if a.toNat < 0xFE00 then Memory.read b.ram (a.toNat - 0x2000)
    else if a.toNat < 0xFF80 then 0x00#8
    else Memory.read b.ram a.toNat := by
  rw [peek_eq]
  by_cases hrom : a.toNat < 0x8000
  · simp only [if_pos hrom, Bus.romRead, overlaid_iff]
  · rw [if_neg hrom, if_neg (by omega), if_neg hrom, ramKey_eq]
    split_ifs <;> rfl

/-! Byte writes (R63, R67). -/

/-- What the stores take of a byte, by the bounds of the map. -/
theorem store_by_range (a : Word) (v : Byte) (s : State) : { s with bus := s.bus.store a v } =
    if a.toNat < 0xA000 then s
    else if a.toNat < 0xE000 then { s with bus := { s.bus with ram := Memory.write s.bus.ram a.toNat v } }
    else if a.toNat < 0xFE00 then { s with bus := { s.bus with ram := Memory.write s.bus.ram (a.toNat - 0x2000) v } }
    else if a.toNat < 0xFF80 then s
    else { s with bus := { s.bus with ram := Memory.write s.bus.ram a.toNat v } } := by
  unfold Bus.store
  rw [ramKey_eq]
  split_ifs <;> rfl

/-- Settles O46: both accesses are the model's own, their byte, latch and store written by the bounds of the map. -/
theorem addressMap : Obligations.AddressMap := by
  intro a v s
  constructor
  · rw [← peek_by_range, ← touch_eq]
    rfl
  · rw [← store_by_range]
    simp only [← overlaid_iff]
    rfl

/-- Settles O47: the bus after a write is the bus with the byte stored, and the stores are read back by key. -/
theorem readAfterWrite : Obligations.ReadAfterWrite := by
  intro a x v s hwf
  simp only [writeByte_bus, writeByte_rf, writeByte_ime, writeByte_halted, writeByte_seq, writeByte_cycles, store_cfg,
    store_biosOverlay, and_self, and_true]
  exact ⟨fun _ ha hx => peek_store_same s.bus v ha hx hwf, peek_store_other s.bus a x v, fun _ => ramKey_mirror⟩

/-! Word accesses (R75, R76). -/

/-- Settles O48. -/
theorem wordAccesses : Obligations.WordAccesses := by
  intro a v s
  rw [← add_one_eq_ofNat, ← hiByte_eq, ← loByte_eq]
  exact ⟨⟨mkWord_toNat _ _, rfl⟩, rfl⟩

end Sys2Proof.Machine
end

section
/-! SUPPORT. The encoder against the decoder, the undefined opcodes and the r8 operand. -/
namespace Sys2Proof
open Machine

/-! What a table entry's bytes stand for (R101, R108 to R110). -/

@[simp] theorem loByte_mkWord (hi lo : Byte) : loByte (mkWord hi lo) = lo := by
  apply BitVec.eq_of_toNat_eq
  rw [loByte_eq, mkWord_toNat, BitVec.toNat_ofNat]
  omega

@[simp] theorem hiByte_mkWord (hi lo : Byte) : hiByte (mkWord hi lo) = hi := by
  apply BitVec.eq_of_toNat_eq
  rw [hiByte_eq, mkWord_toNat, BitVec.toNat_ofNat]
  omega

/-- The instruction an entry becomes with its immediate in a word; an entry with a byte takes the low one. -/
def Form.instrAt (w : Word) : Form → Instr
  | .plain i => i
  | .byte f => f (loByte w)
  | .word f => f w

/-- The immediate's bytes as they stand after the opcode. -/
def Form.operands (w : Word) : Form → List Byte
  | .plain _ => []
  | .byte _ => [loByte w]
  | .word _ => [loByte w, hiByte w]

/-- The encoder writes a primary entry's opcode and operand bytes, and the entry is a well-formed instruction (R109). -/
theorem encode_instrAt_of_primary (w : Word) : ∀ (op : Byte) (d : Descriptor), primary op = some d →
    (d.form.instrAt w).wellFormed = true ∧ encode (d.form.instrAt w) = op :: d.form.operands w := by
  refine forall_byte fun n hn d h => ?_
  interval_cases n <;> cases h <;> exact ⟨rfl, rfl⟩

/-- The encoder writes 0xCB and an extended entry's opcode, and the entry is a well-formed instruction (R110). -/
theorem encode_extendedInstr : ∀ op2 : Byte,
    (extendedInstr op2).wellFormed = true ∧ encode (extendedInstr op2) = [0xCB#8, op2] := by decide

/-- The undefined opcodes are the gaps of the primary table (R111). -/
theorem primary_eq_none_iff : ∀ op : Byte, primary op = none ↔ op ∈ undefinedOpcodes := by decide

theorem wellFormed_undefined_iff (op : Byte) : (Instr.undefined op).wellFormed = true ↔ op ∈ undefinedOpcodes := by
  simp [Instr.wellFormed]

/-! Decoding what the encoder writes. -/

/-- An entry with a little-endian word decodes to the word its two bytes were taken from (R101). -/
theorem decode_word {op : Byte} {f : Word → Instr} {rest : List Byte}
    (h : ∀ lo hi, decode (op :: lo :: hi :: rest) = .ok (f (mkWord hi lo), rest)) (v : Word) :
    decode (op :: loByte v :: hiByte v :: rest) = .ok (f v, rest) := by
  rw [h, mkWord_hiByte_loByte]

theorem decode_undefined {op : Byte} (h : op ∈ undefinedOpcodes) (rest : List Byte) :
    decode (op :: rest) = .ok (.undefined op, rest) := by
  simp [decode, decodePrimary, (primary_eq_none_iff op).2 h]

/-- An encoding decodes to its instruction: by lookup of its opcode, where a word operand is put together again from its two
bytes and an undefined opcode is a gap of the table. -/
theorem decode_encode {i : Instr} (hwf : i.wellFormed = true) (hi : i ≠ .prefixCb) (rest : List Byte) :
    decode (encode i ++ rest) = .ok (i, rest) := by
  cases i with
  | prefixCb => exact absurd rfl hi
  | undefined op => exact decode_undefined ((wellFormed_undefined_iff op).1 hwf) rest
  | ldBcD16 v | ldDeD16 v | ldHlD16 v | ldSpD16 v | ldMemA16Sp v | ldMemA16A v | ldAMemA16 v | jp v | jpNz v | jpZ v
  | jpNc v | jpC v | call v | callNz v | callZ v | callNc v | callC v => exact decode_word (fun _ _ => rfl) v
  | _ => rfl

/-- Settles O1. -/
theorem decodeEncodeRoundTrip : Obligations.DecodeEncodeRoundTrip :=
  ⟨fun _ rest hwf hi => decode_encode hwf hi rest, rfl⟩

/-- Settles O3, each word by its lookup. -/
theorem listedWordsDecode : Obligations.ListedWordsDecode := by
  unfold Obligations.ListedWordsDecode
  decide

/-! Encoding what the decoder reads. -/

/-- What an entry's decoder accepts is the entry's operand bytes, and the instruction is the entry's at these bytes. -/
theorem decodeForm_eq_ok {op : Byte} {form : Form} {bytes : List Byte} {i : Instr} {rest : List Byte}
    (h : decodeForm op form bytes = .ok (i, rest)) :
    ∃ w, i = form.instrAt w ∧ bytes = form.operands w ++ rest := by
  cases form with
  | plain j => cases h; exact ⟨0, rfl, rfl⟩
  | byte f =>
    match bytes, h with
    | lo :: _, rfl => exact ⟨mkWord 0 lo, by simp [Form.instrAt], by simp [Form.operands]⟩
  | word f =>
    match bytes, h with
    | lo :: hi :: _, rfl => exact ⟨mkWord hi lo, rfl, by simp [Form.operands]⟩

/-- A lookup in the primary table consumes exactly an encoding, the dispatch entry's included (R109, R111). -/
theorem encode_of_decodePrimary {bytes : List Byte} {i : Instr} {rest : List Byte}
    (h : decodePrimary bytes = .ok (i, rest)) : i.wellFormed = true ∧ bytes = encode i ++ rest := by
  cases bytes with
  | nil => cases h
  | cons op tail =>
    simp only [decodePrimary] at h
    split at h
    · next hop =>
      cases h
      exact ⟨(wellFormed_undefined_iff op).2 ((primary_eq_none_iff op).1 hop), rfl⟩
    · next d hop =>
      obtain ⟨w, rfl, rfl⟩ := decodeForm_eq_ok h
      obtain ⟨hwf, henc⟩ := encode_instrAt_of_primary w op d hop
      exact ⟨hwf, by rw [henc, List.cons_append]⟩

/-- Settles O2: a primary lookup consumes an encoding; where that is the dispatch entry's, the next byte completes an extended
entry's encoding. -/
theorem encodeDecodeRoundTrip : Obligations.EncodeDecodeRoundTrip := by
  intro bytes i rest h
  unfold decode at h
  split at h
  · next op2 tail hp =>
    cases h
    obtain ⟨hwf, henc⟩ := encode_extendedInstr op2
    obtain ⟨-, rfl⟩ := encode_of_decodePrimary hp
    exact ⟨hwf, by rw [henc]; rfl⟩
  · exact encode_of_decodePrimary h

end Sys2Proof

namespace Sys2Proof.Machine

/-! The undefined opcodes in the sequencer (R132, R135). -/

theorem exec_undefined (op : Byte) (s : State) : exec (.undefined op) s =
    .next { s with events := s.events ++ [.undefinedOpcode op (s.rf.pc - 1)], cycles := s.cycles + 4 } := rfl

/-- A gap of the primary table is fetched as an undefined opcode, with no operand byte (R132). -/
theorem fetchInstr_undefined {s : State} (h : s.bus.peek s.rf.pc ∈ undefinedOpcodes) :
    fetchInstr s = (.undefined (s.bus.peek s.rf.pc), (fetch8 s).2) := by
  simp [fetchInstr, fetch8_eq, (primary_eq_none_iff _).2 h]

/-- A step of a running block in fetch-primary is exec of the instruction fetched (R130). -/
theorem step_fetchPrimary {s : State} (hh : s.halted = false) (hq : s.seq = .fetchPrimary) :
    step s = exec (fetchInstr s).1 (fetchInstr s).2 := by
  simp [step, hh, hq]

/-- Settles O5: the opcode's address is PC - 1 after the fetch, which is PC before it. -/
theorem undefinedOpcodeIsReported : Obligations.UndefinedOpcodeIsReported := by
  refine ⟨primary_eq_none_iff, fun op s _ => exec_undefined op s, fun s hh hq hop => ?_⟩
  rw [step_fetchPrimary hh hq, fetchInstr_undefined hop, exec_undefined, fetch8_eq, BitVec.add_sub_cancel]

/-! The r8 operand (R104, R144). -/

/-- An r8 operand and a register of the same code are the same register (R104). -/
theorem r8Reg_of_code_eq {o : R8} {r : Reg8} (h : o.code = r.code) : r8Reg o = some r := by
  cases r <;> cases o <;> cases h <;> rfl

theorem readR8_of_r8Reg {o : R8} {r : Reg8} (h : r8Reg o = some r) (s : State) : readR8 o s = (s.rf.get r, s) := by
  simp [readR8, h, readReg]

theorem writeR8_of_r8Reg {o : R8} {r : Reg8} (h : r8Reg o = some r) (v : Byte) (s : State) :
    writeR8 o v s = { s with rf := s.rf.set r v } := by
  simp [writeR8, h, writeReg]

/-- Settles O60: the codes and the register file by their listing, the operand by its register or its (HL) form. -/
theorem operandR8 : Obligations.OperandR8 := by
  refine ⟨rfl, fun v rf => ⟨⟨rfl, rfl⟩, ⟨rfl, rfl⟩, ⟨rfl, rfl⟩, ⟨rfl, rfl⟩, ⟨rfl, rfl⟩, ⟨rfl, rfl⟩, ⟨rfl, rfl⟩⟩,
    fun o v s => ⟨?_, fun r hcode => ?_⟩⟩
  · rintro rfl
    exact ⟨rfl, rfl⟩
  · have hr := r8Reg_of_code_eq hcode
    exact ⟨readR8_of_r8Reg hr s, writeR8_of_r8Reg hr v s⟩

end Sys2Proof.Machine
end

section
/-! SUPPORT. The sequencer: the fetches of a step against the decoder, the extended half and the halted step. -/
namespace Sys2Proof

/-- The encoder writes as many bytes as the table entry states; an undefined opcode is one byte (R100, R103). -/
theorem encode_length {i : Instr} (hwf : i.wellFormed = true) : (encode i).length = i.length := by
  cases i with
  | undefined op => simp [Instr.length, descriptorOf_undefined hwf, encode]
  | _ => rfl

/-- An instruction of a primary entry is as long as its opcode and the entry's operand bytes. -/
theorem length_instrAt_of_primary {op : Byte} {d : Descriptor} (h : primary op = some d) (w : Word) :
    (d.form.instrAt w).length = (d.form.operands w).length + 1 := by
  obtain ⟨hwf, henc⟩ := encode_instrAt_of_primary w op d h
  rw [← encode_length hwf, henc, List.length_cons]

theorem length_extendedInstr (op2 : Byte) : (extendedInstr op2).length = 2 := by
  obtain ⟨hwf, henc⟩ := encode_extendedInstr op2
  rw [← encode_length hwf, henc]
  rfl

theorem length_undefined {op : Byte} (h : op ∈ undefinedOpcodes) : (Instr.undefined op).length = 1 :=
  (encode_length ((wellFormed_undefined_iff op).2 h)).symm

/-- Every extended entry is 2 bytes long, the 0xCB byte counted (R133). -/
theorem extended_length : ∀ op2 : Byte, (extended op2).length = 2 := by decide

/-- The decoder reads the bare dispatch entry only where no byte follows 0xCB (R113). -/
theorem bytes_of_decode_prefixCb {bytes rest : List Byte} (h : decode bytes = .ok (.prefixCb, rest)) :
    bytes = [0xCB#8] := by
  obtain ⟨-, rfl⟩ := encodeDecodeRoundTrip _ _ _ h
  cases rest with
  | nil => rfl
  | cons op2 tail =>
    have hext : decode (encode .prefixCb ++ op2 :: tail) = .ok (extendedInstr op2, tail) := rfl
    simp [hext] at h

end Sys2Proof

namespace Sys2Proof.Machine

/-! The extended half of a step (R133, R134). -/

theorem exec_prefixCb (s : State) : exec .prefixCb s = extendedStep (setSeq .fetchExtended s) := rfl

/-- The dispatch entry runs the extended entry of the next byte, at the state after that byte is fetched. -/
theorem exec_prefixCb_of_fetchPrimary {s : State} (hq : s.seq = .fetchPrimary) :
    exec .prefixCb s = exec (extendedInstr (fetch8 s).1) (fetch8 s).2 := by
  have hseq : setSeq .fetchPrimary (fetch8 (setSeq .fetchExtended s)).2 = (fetch8 s).2 := by
    simp [fetch8_eq, setSeq, hq]
  rw [exec_prefixCb, extendedStep_eq_exec, hseq]
  rfl

/-- Settles O7, by the effect of the extended half of a step. -/
theorem prefixRunsExtendedEntry : Obligations.PrefixRunsExtendedEntry := by
  refine ⟨⟨_, rfl, rfl, rfl, rfl⟩, fun op2 => ⟨extended_opcode op2, extended_length op2⟩, fun s => ?_⟩
  obtain ⟨t, ht, -, hseq, -, -⟩ := extendedStep_effect (setSeq .fetchExtended s)
  exact ⟨t, ht, hseq, (extendedStep_eq_exec _).symm.trans ht⟩

/-! A step while halted (R137). -/

theorem step_halted {s : State} (h : s.halted = true) : step s = finish 4 s := if_pos h

/-- Settles O6: a halted step finishes at once at cost 4. -/
theorem haltedStepOnlyCountsCycles : Obligations.HaltedStepOnlyCountsCycles :=
  fun _ => ⟨step_halted, rfl⟩

/-! A step's fetches against the decoder (R130 to R132, R136). -/

theorem fetchBytes_succ (n : Nat) (s : State) : fetchBytes (n + 1) s =
    ((fetch8 s).1 :: (fetchBytes n (fetch8 s).2).1, (fetchBytes n (fetch8 s).2).2) := rfl

/-- The operand fetches give what the decoder reads from the bytes they fetch. -/
theorem fetchOperands_of_decodeForm {op : Byte} {form : Form} {s : State} {i : Instr} {rest : List Byte}
    (h : decodeForm op form (fetchBytes 2 s).1 = .ok (i, rest)) :
    ∃ w, i = form.instrAt w ∧ fetchOperands form s = (i, (fetchBytes (form.operands w).length s).2) := by
  cases form with
  | plain j => cases h; exact ⟨0, rfl, rfl⟩
  | byte f => cases h; exact ⟨mkWord 0 (fetch8 s).1, congrArg f (loByte_mkWord 0 _).symm, rfl⟩
  | word f => cases h; exact ⟨(fetch16 s).1, rfl, rfl⟩

/-- Fetching an instruction fetches as many bytes as it is long, and gives what one lookup of the decoder reads from them. -/
theorem fetchInstr_of_decodePrimary {s : State} {i : Instr} {rest : List Byte}
    (h : decodePrimary (fetchBytes 3 s).1 = .ok (i, rest)) : fetchInstr s = (i, (fetchBytes i.length s).2) := by
  rw [fetchBytes_succ] at h
  simp only [decodePrimary] at h
  split at h
  · next hop =>
    cases h
    have hmem := (primary_eq_none_iff _).1 hop
    rw [length_undefined hmem]
    exact fetchInstr_undefined hmem
  · next d hop =>
    obtain ⟨w, rfl, hfetch⟩ := fetchOperands_of_decodeForm h
    rw [length_instrAt_of_primary hop]
    simpa only [fetchInstr, hop, fetchBytes_succ] using hfetch

/-- A step at 0xCB runs the dispatch entry at the state after that byte (R132, R133). -/
theorem step_dispatch {s : State} (hh : s.halted = false) (hq : s.seq = .fetchPrimary)
    (h : (fetch8 s).1 = 0xCB#8) : step s = exec .prefixCb (fetch8 s).2 := by
  rw [step_fetchPrimary hh hq]
  simp only [fetchInstr, h]
  rfl

/-- A step runs the instruction the next bytes decode to, at the state after its bytes are fetched. -/
theorem step_of_decode {s : State} {i : Instr} {rest : List Byte} (hh : s.halted = false) (hq : s.seq = .fetchPrimary)
    (h : decode (fetchBytes 3 s).1 = .ok (i, rest)) : step s = exec i (fetchBytes i.length s).2 := by
  unfold decode at h
  split at h
  · next op2 tail hp =>
    cases h
    obtain ⟨-, hbytes⟩ := encode_of_decodePrimary hp
    obtain ⟨hop, hop2, -⟩ : (fetch8 s).1 = 0xCB#8 ∧ (fetch8 (fetch8 s).2).1 = op2 ∧ _ := by
      simpa [encode, fetchBytes] using hbytes
    rw [step_dispatch hh hq hop, exec_prefixCb_of_fetchPrimary ((dataOp_fetch8 s).seq.trans hq), hop2,
      length_extendedInstr]
    rfl
  · rw [step_fetchPrimary hh hq, fetchInstr_of_decodePrimary h]

/-- Settles O4, both clauses through the instruction fetched. -/
theorem stepRunsDecodedInstruction : Obligations.StepRunsDecodedInstruction :=
  fun _ hh hq => ⟨fun _ _ h => step_of_decode hh hq h, fun h => step_dispatch hh hq (List.head_eq_of_cons_eq h)⟩

/-! PC over fetches (R131). -/

theorem fetchBytes_pc (n : Nat) (s : State) : (fetchBytes n s).2.rf.pc = BitVec.ofNat 16 (s.rf.pc.toNat + n) := by
  induction n generalizing s with
  | zero => simp [fetchBytes]
  | succ n ih =>
    rw [fetchBytes_succ, ih]
    apply BitVec.eq_of_toNat_eq
    simp [fetch8_eq]
    omega

end Sys2Proof.Machine
end

section
/-! SUPPORT. The cost and the PC of every instruction (R138 to R140). -/
namespace Sys2Proof.Machine

/-! What the listing charges each family (R109, R110, R138, R139). -/
section
variable (f : Flags)

theorem listedCost_ldRR (dst src : Reg8) : listedCost (Family.ldRR dst src) f = 4 := by
  cases dst <;> cases src <;> rfl
theorem listedCost_ldRD8 (r : Reg8) (v : Byte) : listedCost (Family.ldRD8 r v) f = 8 := by cases r <;> rfl
theorem listedCost_ldRHl (r : Reg8) : listedCost (Family.ldRHl r) f = 8 := by cases r <;> rfl
theorem listedCost_ldHlR (r : Reg8) : listedCost (Family.ldHlR r) f = 8 := by cases r <;> rfl
theorem listedCost_ldRpD16 (p : Rp) (v : Word) : listedCost (Family.ldRpD16 p v) f = 12 := by cases p <;> rfl
theorem listedCost_push (p : Pair) : listedCost (Family.push p) f = 16 := by cases p <;> rfl
theorem listedCost_pop (p : Pair) : listedCost (Family.pop p) f = 12 := by cases p <;> rfl
theorem listedCost_alu (op : AluOp) (src : R8) :
    listedCost (Family.alu op src) f = if src = .hl then 8 else 4 := by
  cases op <;> cases src <;> rfl
theorem listedCost_aluD8 (op : AluOp) (v : Byte) : listedCost (Family.aluD8 op v) f = 8 := by cases op <;> rfl
theorem listedCost_inc (o : R8) : listedCost (Family.inc o) f = if o = .hl then 12 else 4 := by cases o <;> rfl
theorem listedCost_dec (o : R8) : listedCost (Family.dec o) f = if o = .hl then 12 else 4 := by cases o <;> rfl
theorem listedCost_incRp (p : Rp) : listedCost (Family.incRp p) f = 8 := by cases p <;> rfl
theorem listedCost_decRp (p : Rp) : listedCost (Family.decRp p) f = 8 := by cases p <;> rfl
theorem listedCost_addHl (p : Rp) : listedCost (Family.addHl p) f = 8 := by cases p <;> rfl
theorem listedCost_shift (op : ShiftOp) (o : R8) :
    listedCost (Family.shift op o) f = if o = .hl then 16 else 8 := by
  cases op <;> cases o <;> rfl
theorem listedCost_bit (b : Fin 8) (o : R8) : listedCost (Family.bit b o) f = if o = .hl then 12 else 8 := by
  fin_cases b <;> cases o <;> rfl
theorem listedCost_res (b : Fin 8) (o : R8) : listedCost (Family.res b o) f = if o = .hl then 16 else 8 := by
  fin_cases b <;> cases o <;> rfl
theorem listedCost_set (b : Fin 8) (o : R8) : listedCost (Family.set b o) f = if o = .hl then 16 else 8 := by
  fin_cases b <;> cases o <;> rfl
theorem listedCost_jpCc (cc : Cond) (a : Word) :
    listedCost (Family.jpCc cc a) f = 12 + if condHolds cc f then 4 else 0 := by
  cases cc <;> rfl
theorem listedCost_jrCc (cc : Cond) (e : Byte) :
    listedCost (Family.jrCc cc e) f = 8 + if condHolds cc f then 4 else 0 := by
  cases cc <;> rfl
theorem listedCost_callCc (cc : Cond) (a : Word) :
    listedCost (Family.callCc cc a) f = 12 + if condHolds cc f then 12 else 0 := by
  cases cc <;> rfl
theorem listedCost_retCc (cc : Cond) :
    listedCost (Family.retCc cc) f = 8 + if condHolds cc f then 12 else 0 := by
  cases cc <;> rfl
theorem listedCost_rst (t : Fin 8) : listedCost (Family.rst t) f = 16 := by fin_cases t <;> rfl

end

/-! The shared operations charge nothing, and no data operation writes PC. -/
section
variable (s : State)

@[simp] theorem writeR8_cycles (o : R8) (v : Byte) : (writeR8 o v s).cycles = s.cycles := by
  cases o with
  | hl => exact writeByte_cycles s _ v
  | _ => rfl
@[simp] theorem writeR8_pc (o : R8) (v : Byte) : (writeR8 o v s).rf.pc = s.rf.pc := by
  cases o with
  | hl => exact congrArg RegFile.pc (writeByte_rf s _ v)
  | _ => rfl
@[simp] theorem writeRp_cycles (p : Rp) (v : Word) : (writeRp p v s).cycles = s.cycles := by cases p <;> rfl
@[simp] theorem writeRp_pc (p : Rp) (v : Word) : (writeRp p v s).rf.pc = s.rf.pc := by cases p <;> rfl
@[simp] theorem aluMeaning_cycles (op : AluOp) (v : Byte) : (aluMeaning op v s).cycles = s.cycles := by
  cases op <;> rfl
@[simp] theorem aluMeaning_pc (op : AluOp) (v : Byte) : (aluMeaning op v s).rf.pc = s.rf.pc := by
  cases op <;> rfl
@[simp] theorem pop16_cycles : (pop16 s).2.cycles = s.cycles := rfl
@[simp] theorem pop16_pc : (pop16 s).2.rf.pc = s.rf.pc := rfl
@[simp] theorem callTo_cycles (a : Word) : (callTo a s).cycles = s.cycles := by simp [callTo]

end

/-- exec of `i` adds its listed cost to the cycle counter, and keeps PC unless `i` transfers control (R138 to R140). -/
def RunsAsListed (i : Instr) (s : State) : Prop :=
  ∃ t, exec i s = .next t ∧ t.cycles = s.cycles + listedCost i s.rf.f ∧ (i.transfersControl = false → t.rf.pc = s.rf.pc)

section
variable {i : Instr} {s u : State} {n extra : Nat} {cc : Cond}

/-- A data operation at its listed cost. -/
theorem runsAsListed_data (hexec : exec i s = finish n u) (hcost : listedCost i s.rf.f = n)
    (hop : u.cycles = s.cycles ∧ u.rf.pc = s.rf.pc) : RunsAsListed i s :=
  ⟨_, hexec, by rw [hcost, charge_cycles, hop.1], fun _ => hop.2⟩

/-- A transfer at its listed cost. -/
theorem runsAsListed_transfer (hexec : exec i s = finish n u) (hcost : listedCost i s.rf.f = n)
    (hcycles : u.cycles = s.cycles) (htransfer : i.transfersControl = true) : RunsAsListed i s :=
  ⟨_, hexec, by rw [hcost, charge_cycles, hcycles], by simp [htransfer]⟩

/-- A conditional transfer at its base cost, and the extra cost where its condition holds (R139). -/
theorem runsAsListed_conditional
    (hexec : exec i s = finishCond n extra (if condHolds cc s.rf.f then (true, u) else (false, s)))
    (hcost : listedCost i s.rf.f = n + if condHolds cc s.rf.f then extra else 0)
    (hcycles : u.cycles = s.cycles) (htransfer : i.transfersControl = true) : RunsAsListed i s := by
  refine ⟨_, hexec, ?_, by simp [htransfer]⟩
  rw [hcost, charge_cycles]
  cases condHolds cc s.rf.f <;> simp [hcycles]

end

/-- Every well-formed instruction but the dispatch entry runs as listed: form by form, what exec answers, the listed cost, and
what the operation leaves of the counter and PC. -/
theorem runsAsListed {i : Instr} (hwf : i.wellFormed = true) (hi : i ≠ .prefixCb) (s : State) : RunsAsListed i s := by
  cases inFamily i with
  | prefixCb => exact absurd rfl hi
  | undefined op => exact runsAsListed_data rfl (by simp [listedCost, descriptorOf_undefined hwf]) ⟨rfl, rfl⟩
  | ldRR dst src => exact runsAsListed_data (exec_ldRR s dst src) (listedCost_ldRR _ dst src) (by simp)
  | ldRD8 r v => exact runsAsListed_data (exec_ldRD8 s r v) (listedCost_ldRD8 _ r v) (by simp)
  | ldRHl r => exact runsAsListed_data (exec_ldRHl s r) (listedCost_ldRHl _ r) (by simp [loadFrom])
  | ldHlR r => exact runsAsListed_data (exec_ldHlR s r) (listedCost_ldHlR _ r) (by simp)
  | ldMemHlD8 | ldMemBcA | ldMemDeA | ldMemCA | ldhMemA8A | ldMemA16A =>
    exact runsAsListed_data rfl rfl (by simp [storeAt])
  | ldMemA16Sp | ldMemHlIncA | ldMemHlDecA => exact runsAsListed_data rfl rfl (by simp [storeAThenHl])
  | ldAMemBc | ldAMemDe | ldAMemC | ldhAMemA8 | ldAMemA16 | ldAMemHlInc | ldAMemHlDec | ldSpHl | ldHlSpE8 | addSpE8
  | daa | cpl | scf | ccf | rlca | rrca | rla | rra | nop | halt | stop | di | ei =>
    exact runsAsListed_data rfl rfl ⟨rfl, rfl⟩
  | ldRpD16 p v => exact runsAsListed_data (exec_ldRpD16 s p v) (listedCost_ldRpD16 _ p v) (by simp)
  | push p => exact runsAsListed_data (exec_push s p) (listedCost_push _ p) (by simp)
  | pop p => exact runsAsListed_data (exec_pop s p) (listedCost_pop _ p) (by simp [popPair])
  | alu op src => exact runsAsListed_data (exec_alu s op src) (listedCost_alu _ op src) (by simp [aluFrom])
  | aluD8 op v => exact runsAsListed_data (exec_aluD8 s op v) (listedCost_aluD8 _ op v) (by simp)
  | inc o => exact runsAsListed_data (exec_inc s o) (listedCost_inc _ o) (by simp [incR8])
  | dec o => exact runsAsListed_data (exec_dec s o) (listedCost_dec _ o) (by simp [decR8])
  | incRp p => exact runsAsListed_data (exec_incRp s p) (listedCost_incRp _ p) (by simp)
  | decRp p => exact runsAsListed_data (exec_decRp s p) (listedCost_decRp _ p) (by simp)
  | addHl p => exact runsAsListed_data (exec_addHl s p) (listedCost_addHl _ p) ⟨rfl, rfl⟩
  | shift op o => exact runsAsListed_data (exec_shift s op o) (listedCost_shift _ op o) (by simp [shiftR8])
  | bit b o => exact runsAsListed_data (exec_bit s b o) (listedCost_bit _ b o) (by simp [bitTest])
  | res b o => exact runsAsListed_data (exec_res s b o) (listedCost_res _ b o) (by simp [bitUpdate])
  | set b o => exact runsAsListed_data (exec_set s b o) (listedCost_set _ b o) (by simp [bitUpdate])
  | jp | jpHl | jr | ret | reti => exact runsAsListed_transfer rfl rfl rfl rfl
  | call a => exact runsAsListed_transfer rfl rfl (callTo_cycles s a) rfl
  | rst t => exact runsAsListed_transfer (exec_rst s t) (listedCost_rst _ t) (callTo_cycles s _) (by fin_cases t <;> rfl)
  | jpCc cc a =>
    exact runsAsListed_conditional (exec_jpCc s cc a) (listedCost_jpCc _ cc a) rfl (by cases cc <;> rfl)
  | jrCc cc e =>
    exact runsAsListed_conditional (exec_jrCc s cc e) (listedCost_jrCc _ cc e) rfl (by cases cc <;> rfl)
  | callCc cc a =>
    exact runsAsListed_conditional (exec_callCc s cc a) (listedCost_callCc _ cc a) (callTo_cycles s a) (by cases cc <;> rfl)
  | retCc cc =>
    exact runsAsListed_conditional (exec_retCc s cc) (listedCost_retCc _ cc) rfl (by cases cc <;> rfl)

/-- Settles O52, by the listed run of every form. -/
theorem costsAreAsListed : Obligations.CostsAreAsListed := by
  intro i s t hwf hi h
  obtain ⟨_, ht, hcycles, -⟩ := runsAsListed hwf hi s
  cases ht.symm.trans h
  exact hcycles

/-- Settles O54: the step's fetches advance PC by the length, and the instruction keeps it. -/
theorem programCounterAdvancesByLength : Obligations.ProgramCounterAdvancesByLength := by
  intro s t i rest hh hq hdecode htransfer hstep
  have hwf := (encodeDecodeRoundTrip _ i rest hdecode).1
  have hi : i ≠ .prefixCb := by
    rintro rfl
    simpa [fetchBytes] using bytes_of_decode_prefixCb hdecode
  rw [step_of_decode hh hq hdecode] at hstep
  obtain ⟨_, ht, -, hpc⟩ := runsAsListed hwf hi (fetchBytes i.length s).2
  cases ht.symm.trans hstep
  rw [hpc htransfer, fetchBytes_pc]

end Sys2Proof.Machine
end

section
/-! SUPPORT. The 8-bit loads and stores: their encodings, and what each shared operation leaves at its cost (41_load8). -/
namespace Sys2Proof.Machine

/-! The encodings of the register families (R109). -/

theorem encode_ldRR (dst src : Reg8) :
    encode (Family.ldRR dst src) = [BitVec.ofNat 8 (0x40 + 8 * dst.code + src.code)] := by
  cases dst <;> cases src <;> rfl
theorem encode_ldRD8 (dst : Reg8) (v : Byte) :
    encode (Family.ldRD8 dst v) = [BitVec.ofNat 8 (0x06 + 8 * dst.code), v] := by
  cases dst <;> rfl
theorem encode_ldRHl (dst : Reg8) : encode (Family.ldRHl dst) = [BitVec.ofNat 8 (0x46 + 8 * dst.code)] := by
  cases dst <;> rfl
theorem encode_ldHlR (r : Reg8) : encode (Family.ldHlR r) = [BitVec.ofNat 8 (0x70 + r.code)] := by
  cases r <;> rfl

/-- A high-page address in exact arithmetic: the offset is zero-extended, so the sum does not wrap (R108). -/
theorem highPage_eq (o : Byte) : highPage o = BitVec.ofNat 16 (0xFF00 + o.toNat) := by
  simp [highPage, zext16, BitVec.ofNat_add]

/-! Each shared operation, finished at its cost. -/
section
variable (n : Nat) (s : State)

theorem finish_writeReg (r : Reg8) (v : Byte) :
    finish n (writeReg r v s) = .next { s with rf := s.rf.set r v, cycles := s.cycles + n } := rfl

theorem finish_loadFrom (r : Reg8) (a : Word) : finish n (loadFrom r a s) =
    .next { s with rf := s.rf.set r (s.bus.peek a), bus := s.bus.touch a, cycles := s.cycles + n } := rfl

/-- A byte write, reported or not, charges nothing of its own. -/
theorem finish_writeByte (a : Word) (v : Byte) :
    finish n (writeByte a v s) = .next { writeByte a v s with cycles := s.cycles + n } := by
  rw [finish, charge, writeByte_cycles]

/-- The byte write leaves the registers, so HL moves also where the write is discarded (R165, R166). -/
theorem finish_storeAThenHl (f : Word → Word) : finish n (storeAThenHl f s) =
    .next { writeByte (s.rf.pair .hl) s.rf.a s with
      rf := Spec.setPair .hl (f (s.rf.pair .hl)).toNat s.rf, cycles := s.cycles + n } := by
  rw [finish, charge, ← setPair_eq_spec]
  simp [storeAThenHl, writePair, readPair, readReg, RegFile.get]

/-- HL is written after A, from the address read (R167, R168). -/
theorem finish_loadAThenHl (f : Word → Word) : finish n (loadAThenHl f s) =
    .next { s with
      rf := { Spec.setPair .hl (f (s.rf.pair .hl)).toNat s.rf with a := s.bus.peek (s.rf.pair .hl) }
      bus := s.bus.touch (s.rf.pair .hl), cycles := s.cycles + n } := by
  rw [← setPair_eq_spec]
  rfl

end

/-- Settles O8. -/
theorem loadRegisterFromRegister : Obligations.LoadRegisterFromRegister :=
  fun dst src s => ⟨encode_ldRR dst src, by rw [exec_ldRR, finish_writeReg, readReg]⟩

/-- Settles O9. -/
theorem loadRegisterFromImmediate : Obligations.LoadRegisterFromImmediate :=
  fun dst v s => ⟨encode_ldRD8 dst v, by rw [exec_ldRD8, finish_writeReg]⟩

/-- Settles O10: the address is an argument of the load, formed from the registers before it writes one. -/
theorem loadRegisterFromMemoryAtHl : Obligations.LoadRegisterFromMemoryAtHl :=
  fun dst s => ⟨encode_ldRHl dst, by rw [exec_ldRHl, finish_loadFrom, readPair]⟩

/-- Settles O11. -/
theorem storeAtHl : Obligations.StoreAtHl :=
  ⟨fun r s => ⟨encode_ldHlR r, by rw [exec_ldHlR, finish_writeByte, readPair, readReg]⟩,
    fun v s => ⟨rfl, finish_writeByte 12 s (s.rf.pair .hl) v⟩⟩

/-- Settles O12, each form a load of A from its address. -/
theorem loadAccumulatorFromMemory : Obligations.LoadAccumulatorFromMemory := by
  intro s
  simp only [← highPage_eq, ← hiByte_eq, ← loByte_eq]
  exact ⟨⟨rfl, finish_loadFrom 8 s .a (s.rf.pair .bc)⟩,
    ⟨rfl, finish_loadFrom 8 s .a (s.rf.pair .de)⟩,
    fun a => ⟨rfl, finish_loadFrom 16 s .a a⟩,
    fun o => ⟨rfl, finish_loadFrom 12 s .a (highPage o)⟩,
    ⟨rfl, finish_loadFrom 8 s .a (highPage s.rf.c)⟩⟩

/-- Settles O13, each form a byte write of A at its address. -/
theorem storeAccumulatorToMemory : Obligations.StoreAccumulatorToMemory := by
  intro s
  simp only [← highPage_eq, ← hiByte_eq, ← loByte_eq]
  exact ⟨⟨rfl, finish_writeByte 8 s (s.rf.pair .bc) s.rf.a⟩,
    ⟨rfl, finish_writeByte 8 s (s.rf.pair .de) s.rf.a⟩,
    fun a => ⟨rfl, finish_writeByte 16 s a s.rf.a⟩,
    fun o => ⟨rfl, finish_writeByte 12 s (highPage o) s.rf.a⟩,
    ⟨rfl, finish_writeByte 8 s (highPage s.rf.c) s.rf.a⟩⟩

/-- Settles O14: the new HL is the old one plus or minus 1 as a word, which is the sum mod 2^16. -/
theorem postIncrementAndDecrementOfHl : Obligations.PostIncrementAndDecrementOfHl := by
  intro s hl up down
  have hup : (hl + 1).toNat = up := BitVec.toNat_add hl 1
  have hdown : (hl - 1).toNat = down := by rw [word_sub_one_eq, BitVec.toNat_ofNat]
  rw [← hup, ← hdown]
  exact ⟨⟨rfl, finish_storeAThenHl 8 s (· + 1)⟩, ⟨rfl, finish_storeAThenHl 8 s (· - 1)⟩,
    ⟨rfl, finish_loadAThenHl 8 s (· + 1)⟩, ⟨rfl, finish_loadAThenHl 8 s (· - 1)⟩⟩

end Sys2Proof.Machine
end

section
/-! SUPPORT. The 16-bit loads, the sum of SP and a displacement, and the stack: what is pushed is what is popped
(42_load16_stack). -/
namespace Sys2Proof.Machine

/-! The encodings of the pair families (R101, R109). -/

theorem encode_ldRpD16 (p : Rp) (v : Word) :
    encode (Family.ldRpD16 p v) = [BitVec.ofNat 8 (0x01 + 16 * p.code), loByte v, hiByte v] := by
  cases p <;> rfl
theorem encode_push (p : Pair) : encode (Family.push p) = [BitVec.ofNat 8 (0xC5 + 16 * p.code)] := by
  cases p <;> rfl
theorem encode_pop (p : Pair) : encode (Family.pop p) = [BitVec.ofNat 8 (0xC1 + 16 * p.code)] := by
  cases p <;> rfl

/-! The words and flags of the rules, in exact arithmetic (R28, R173, R203). -/

theorem mkWord_eq (hi lo : Byte) : mkWord hi lo = BitVec.ofNat 16 (hi.toNat * 256 + lo.toNat) := by
  rw [← mkWord_toNat, BitVec.ofNat_toNat, BitVec.setWidth_eq]

theorem spPlus_eq_spec (sp : Word) (e : Byte) : spPlus sp e = Spec.spPlus sp e := by
  simp [spPlus, Spec.spPlus, sext8, BitVec.signExtend, BitVec.ofInt_add]

theorem spPlusFlags_eq_spec (sp : Word) (e : Byte) : spPlusFlags sp e = Spec.spPlusF sp e := by
  have low4 (n : Nat) : n &&& 0x0F = n % 0x10 := Nat.and_two_pow_sub_one_eq_mod n 4
  have low8 (n : Nat) : n &&& 0xFF = n % 0x100 := Nat.and_two_pow_sub_one_eq_mod n 8
  rw [Spec.spPlusF, low4, low4, low8]
  rfl

/-! The operations of the 16-bit loads and the stack, as the rules write them, and the cost of a word written. -/
section
variable (s : State)

/-- A word write, its bytes reported or not, charges nothing of its own. -/
theorem finish_writeWord (n : Nat) (a v : Word) :
    finish n (writeWord a v s) = .next { writeWord a v s with cycles := s.cycles + n } := by
  rw [finish, charge, writeWord_cycles]

/-- A push charges nothing of its own. -/
theorem finish_push16 (n : Nat) (v : Word) :
    finish n (push16 v s) = .next { push16 v s with cycles := s.cycles + n } := by
  rw [finish, charge, push16_cycles]

theorem writeRp_eq_spec (p : Rp) (v : Word) : writeRp p v s = { s with rf := Spec.setRp p v.toNat s.rf } := by
  cases p with
  | sp => simp [writeRp, rpPair, setSp, Spec.setRp]
  | _ => exact congrArg (fun rf => { s with rf := rf }) (setPair_eq_spec _ v s.rf)

/-- The flags are taken from SP before the sum is written to HL (R173). -/
theorem hlFromSpPlus_eq_spec (e : Byte) : hlFromSpPlus e s = { s with
    rf := { Spec.setPair .hl (Spec.spPlus s.rf.sp e).toNat s.rf with f := Spec.spPlusF s.rf.sp e } } := by
  rw [← spPlus_eq_spec, ← spPlusFlags_eq_spec, ← setPair_eq_spec]
  rfl

/-- The flags are taken from SP before the sum is written to it (R203). -/
theorem addSp_eq_spec (e : Byte) : addSp e s = { s with
    rf := { s.rf with sp := Spec.spPlus s.rf.sp e, f := Spec.spPlusF s.rf.sp e } } := by
  rw [← spPlus_eq_spec, ← spPlusFlags_eq_spec]
  rfl

/-- The high byte goes to SP + 1 of the lowered SP, one below the SP before the push (R177). -/
theorem push16_eq_spec (v : Word) : push16 v s = Spec.push v s := by
  have hsp : s.rf.sp - 2 + 1 = s.rf.sp - 1 := by bv_omega
  rw [push16_eq, writeWord, hsp, hiByte_eq, loByte_eq]
  rfl

theorem pop16_fst_toNat : (pop16 s).1.toNat = Spec.popped s := mkWord_toNat _ _

theorem pop16_snd : (pop16 s).2 = Spec.afterPop s := rfl

theorem popPair_eq_spec (p : Pair) : popPair p s = { Spec.afterPop s with
    rf := Spec.setPair p (Spec.popped s) (Spec.afterPop s).rf } := by
  rw [← pop16_snd, ← pop16_fst_toNat, ← setPair_eq_spec]
  rfl

end

/-- Settles O15. -/
theorem loadPairFromImmediate : Obligations.LoadPairFromImmediate := by
  intro p v s
  rw [exec_ldRpD16, writeRp_eq_spec, ← hiByte_eq, ← loByte_eq]
  exact ⟨encode_ldRpD16 p v, rfl⟩

/-- Settles O16: the first form is a word write, and HL is the word of its two registers. -/
theorem stackPointerMoves : Obligations.StackPointerMoves := by
  refine ⟨fun a s => ?_, fun s => ⟨rfl, ?_⟩⟩
  · rw [← hiByte_eq a, ← loByte_eq a, ← (wordAccesses a s.rf.sp s).2]
    exact ⟨rfl, finish_writeWord s 20 a s.rf.sp⟩
  · rw [← mkWord_eq]
    rfl

/-- Settles O17. -/
theorem stackPointerPlusDisplacement : Obligations.StackPointerPlusDisplacement :=
  fun e s => ⟨⟨rfl, congrArg (finish 12) (hlFromSpPlus_eq_spec s e)⟩, rfl, congrArg (finish 16) (addSp_eq_spec s e)⟩

/-- Settles O18. -/
theorem pushPair : Obligations.PushPair :=
  fun p s => ⟨encode_push p, by rw [exec_push, finish_push16, readPair, push16_eq_spec]⟩

/-- Settles O19; `popPair` itself is the model's operation. -/
theorem popPair_holds : Obligations.PopPair :=
  fun p s => ⟨encode_pop p, by rw [exec_pop, popPair_eq_spec]; rfl⟩

/-! A word in RAM read back (R75, R76, R83). -/

/-- The address of a RAM byte is the byte's key, or stands in the mirror 0x2000 above it (R69, R70, R74). -/
theorem ramKey_cases {a : Word} {k : Nat} (h : ramKey a = some k) :
    (k = a.toNat ∧ (0xA000 ≤ a.toNat ∧ a.toNat < 0xE000 ∨ 0xFF80 ≤ a.toNat)) ∨
      (k = a.toNat - 0x2000 ∧ 0xE000 ≤ a.toNat ∧ a.toNat < 0xFE00) := by
  rw [ramKey_eq] at h
  split_ifs at h <;> simp only [Option.some.injEq] at h <;> omega

/-- Consecutive addresses reach different RAM bytes: at 0xE000, where the mirror begins, the key falls back to
0xC000. -/
theorem ramKey_succ_ne {a : Word} {k : Nat} (h : ramKey a = some k) : ramKey (a + 1) ≠ some k := by
  intro hsucc
  have ha := ramKey_cases h
  have hb := ramKey_cases hsucc
  rw [show (a + 1).toNat = (a.toNat + 1) % 0x10000 from BitVec.toNat_add a 1] at hb
  omega

/-- A read of RAM leaves the latch: RAM is above the addresses whose reads clear it (R66). -/
theorem touch_of_ramKey (b : Bus) {a : Word} {k : Nat} (h : ramKey a = some k) : b.touch a = b := by
  have ha := ramKey_cases h
  rw [touch_eq, if_neg (by omega)]

/-- A word written where both bytes are RAM is the word read, and the read changes nothing: the write of the high byte spares
the low one. -/
theorem readWord_writeWord {a : Word} {j k : Nat} {s : State} (v : Word) (hwf : Memory.wf s.bus.ram = true)
    (hj : ramKey a = some j) (hk : ramKey (a + 1) = some k) :
    readWord a (writeWord a v s) = (v, writeWord a v s) := by
  have hne : ramKey a ≠ ramKey (a + 1) := fun h => ramKey_succ_ne hj (h ▸ hj)
  have hlo : (writeWord a v s).bus.peek a = loByte v := by
    rw [writeWord_bus, peek_store_other _ _ _ _ (.inr hne), peek_store_same _ _ hj hj hwf]
  have hhi : (writeWord a v s).bus.peek (a + 1) = hiByte v := by
    rw [writeWord_bus, peek_store_same _ _ hk hk (store_wf _ _ _ hwf)]
  rw [readWord_eq, touch_of_ramKey _ hj, touch_of_ramKey _ hk, hlo, hhi, mkWord_hiByte_loByte]

/-- Where both stack bytes are RAM, a pop after a push gives the word and moves SP back (R177). -/
theorem pop16_push16 {j k : Nat} {s : State} (v : Word) (hwf : Memory.wf s.bus.ram = true)
    (hj : ramKey (s.rf.sp - 2) = some j) (hk : ramKey (s.rf.sp - 1) = some k) :
    pop16 (push16 v s) = (v, setSp s.rf.sp (push16 v s)) := by
  have hnext : s.rf.sp - 2 + 1 = s.rf.sp - 1 := by bv_omega
  have hread := readWord_writeWord (s := setSp (s.rf.sp - 2) s) v hwf hj (hnext ▸ hk)
  rw [← push16_eq] at hread
  rw [pop16_eq, push16_rf, hread, BitVec.sub_add_cancel]

/-- Settles O20. -/
theorem popReturnsWhatWasPushed : Obligations.PopReturnsWhatWasPushed := by
  intro v s j k hwf hj hk
  rw [pop16_push16 v hwf hj hk]
  refine ⟨rfl, ?_, rfl⟩
  rw [setSp, push16_rf]

end Sys2Proof.Machine
end

section
/-! SUPPORT. 8-bit arithmetic and logic: results and flags in exact arithmetic, the accumulator forms, INC and DEC, and DAA
(43_alu8). -/
namespace Sys2Proof.Machine

/-! The encodings of the accumulator, INC and DEC families (R109, R180). -/

theorem encode_alu (op : AluOp) (src : R8) :
    encode (Family.alu op src) = [BitVec.ofNat 8 (0x80 + 8 * op.code + src.code)] := by
  cases op <;> cases src <;> rfl
theorem encode_aluD8 (op : AluOp) (v : Byte) :
    encode (Family.aluD8 op v) = [BitVec.ofNat 8 (0xC6 + 8 * op.code), v] := by
  cases op <;> rfl
theorem encode_inc (o : R8) : encode (Family.inc o) = [BitVec.ofNat 8 (0x04 + 8 * o.code)] := by
  cases o <;> rfl
theorem encode_dec (o : R8) : encode (Family.dec o) = [BitVec.ofNat 8 (0x05 + 8 * o.code)] := by
  cases o <;> rfl

/-! Results and flags in exact arithmetic (R32). -/

theorem and_0x0F (n : Nat) : n &&& 0x0F = n % 0x10 := Nat.and_two_pow_sub_one_eq_mod n 4

/-- Z of a result narrowed from an exact sum. -/
theorem ofNat_byte_eq_zero_iff (n : Nat) : BitVec.ofNat 8 n = 0x00#8 ↔ n % 256 = 0 := by
  rw [← BitVec.toNat_inj]
  rfl

/-- Z of a result narrowed from an exact difference. -/
theorem ofInt_byte_eq_zero_iff (i : Int) : BitVec.ofInt 8 i = 0x00#8 ↔ i % 256 = 0 := by
  rw [← BitVec.toNat_inj, BitVec.toNat_ofInt, BitVec.toNat_ofNat]
  omega

theorem sub_eq_ofInt {w : Nat} (a v : BitVec w) : a - v = BitVec.ofInt w ((a.toNat : Int) - v.toNat) := by
  rw [Int.sub_eq_add_neg, BitVec.ofInt_add, BitVec.ofInt_neg, BitVec.sub_eq_add_neg]
  simp

theorem byte_sub_one_eq_ofInt (v : Byte) : v - 1 = BitVec.ofInt 8 ((v.toNat : Int) - 1) := sub_eq_ofInt v 1

theorem addFlags_eq_spec (a v : Byte) (c : Nat) (rf : RegFile) :
    addFlags a v c = (Spec.add a.toNat v.toNat c rf).f := by
  simp [addFlags, addResult, Spec.add, ofNat_byte_eq_zero_iff, and_0x0F, hasHalfCarry8, hasCarry8]

/-- The comparison that gives the borrow is the sign of the exact difference. -/
theorem subFlags_eq_spec (a v : Byte) (c : Nat) : subFlags a v c = Spec.subF a.toNat v.toNat c := by
  have hborrow : a.toNat < v.toNat + c ↔ (a.toNat : Int) - v.toNat - c < 0 := by omega
  simp [subFlags, subResult, Spec.subF, ofInt_byte_eq_zero_iff, and_0x0F, hasHalfBorrow8, hasBorrow8, hborrow]

theorem incFlags_eq_spec (v : Byte) (f : Flags) : incFlags v f =
    { z := (v.toNat + 1) % 256 = 0, n := false, hf := v.toNat &&& 0x0F = 0x0F, cf := f.cf } := by
  simp only [← ofNat_byte_eq_zero_iff, ← add_one_eq_ofNat, and_0x0F]
  rfl

theorem decFlags_eq_spec (v : Byte) (f : Flags) : decFlags v f =
    { z := ((v.toNat : Int) - 1) % 256 = 0, n := true, hf := v.toNat &&& 0x0F = 0x00, cf := f.cf } := by
  simp only [← ofInt_byte_eq_zero_iff, ← byte_sub_one_eq_ofInt, and_0x0F]
  rfl

/-! The accumulator operations, as the rules write them (R181 to R188). -/
section
variable (v : Byte) (s : State)

theorem addA_eq_spec : addA v s = { s with rf := Spec.add s.rf.a.toNat v.toNat 0 s.rf } := by
  rw [addA, addFlags_eq_spec _ _ _ s.rf]
  rfl

theorem adcA_eq_spec : adcA v s = { s with rf := Spec.add s.rf.a.toNat v.toNat s.rf.f.cf.toNat s.rf } := by
  rw [adcA, addFlags_eq_spec _ _ _ s.rf]
  rfl

theorem subA_eq_spec : subA v s = { s with rf := Spec.sub s.rf.a.toNat v.toNat 0 s.rf } := by
  rw [subA, subFlags_eq_spec]
  rfl

theorem sbcA_eq_spec : sbcA v s = { s with rf := Spec.sub s.rf.a.toNat v.toNat s.rf.f.cf.toNat s.rf } := by
  rw [sbcA, subFlags_eq_spec]
  rfl

theorem cpA_eq_spec : cpA v s = { s with rf := { s.rf with f := Spec.subF s.rf.a.toNat v.toNat 0 } } := by
  rw [cpA, subFlags_eq_spec]
  rfl

/-- A logic result in A with its flags: AND sets Hf, XOR and OR clear it (R185 to R187). -/
theorem writeLogic_eq_spec (r : Byte) (hf : Bool) :
    setFlags { z := r = 0x00#8, n := false, hf := hf, cf := false } (writeReg .a r s) =
      { s with rf := Spec.logic r.toNat hf s.rf } := by
  simp [setFlags, RegFile.set, Spec.logic, ← BitVec.toNat_inj]

theorem andA_eq_spec : andA v s = { s with rf := Spec.logic (s.rf.a.toNat &&& v.toNat) true s.rf } :=
  writeLogic_eq_spec s (s.rf.a &&& v) true

theorem xorA_eq_spec : xorA v s = { s with rf := Spec.logic (s.rf.a.toNat ^^^ v.toNat) false s.rf } :=
  writeLogic_eq_spec s (s.rf.a ^^^ v) false

theorem orA_eq_spec : orA v s = { s with rf := Spec.logic (s.rf.a.toNat ||| v.toNat) false s.rf } :=
  writeLogic_eq_spec s (s.rf.a ||| v) false

theorem aluFrom_eq (op : Byte → State → State) (src : R8) :
    aluFrom op src s = op (readR8 src s).1 (readR8 src s).2 := rfl

end

/-- The forms of an accumulator operation, from its effect on the register file: reading the source leaves the register file
and the cycle counter (R180). -/
theorem aluForms_of {op : AluOp} {effect : Byte → RegFile → RegFile}
    (hop : ∀ v s, aluMeaning op v s = { s with rf := effect v s.rf }) : Spec.AluForms op effect := by
  refine ⟨fun src s => ⟨encode_alu op src, ?_⟩, fun v s => ⟨encode_aluD8 op v, ?_⟩⟩
  · rw [exec_alu, aluFrom_eq, hop, finish, charge, readR8_rf, readR8_cycles]
  · rw [exec_aluD8, hop, finish, charge]

/-- Settles O21. -/
theorem addToAccumulator : Obligations.AddToAccumulator := ⟨aluForms_of addA_eq_spec, aluForms_of adcA_eq_spec⟩

/-- Settles O22. -/
theorem subtractFromAccumulator : Obligations.SubtractFromAccumulator :=
  ⟨aluForms_of subA_eq_spec, aluForms_of sbcA_eq_spec⟩

/-- Settles O23. -/
theorem logicOnAccumulator : Obligations.LogicOnAccumulator :=
  ⟨aluForms_of andA_eq_spec, aluForms_of xorA_eq_spec, aluForms_of orA_eq_spec⟩

/-- Settles O24. -/
theorem compareWithAccumulator : Obligations.CompareWithAccumulator := aluForms_of cpA_eq_spec

/-! INC and DEC of an r8 operand (R190 to R193). -/

/-- A read-modify-write of an r8 operand with its flags charges nothing of its own. -/
theorem finish_setFlags_writeR8_readR8 (n : Nat) (f : Flags) (o : R8) (v : Byte) (s : State) :
    finish n (setFlags f (writeR8 o v (readR8 o s).2)) = .next { writeR8 o v (readR8 o s).2 with
      rf := { (writeR8 o v (readR8 o s).2).rf with f := f }, cycles := s.cycles + n } := by
  rw [finish, charge, setFlags_cycles, writeR8_cycles, readR8_cycles]
  rfl

theorem incR8_eq (o : R8) (s : State) : incR8 o s =
    setFlags (incFlags (readR8 o s).1 s.rf.f) (writeR8 o ((readR8 o s).1 + 1) (readR8 o s).2) := rfl

theorem decR8_eq (o : R8) (s : State) : decR8 o s =
    setFlags (decFlags (readR8 o s).1 s.rf.f) (writeR8 o ((readR8 o s).1 - 1) (readR8 o s).2) := rfl

/-- Settles O25. -/
theorem incrementEightBit : Obligations.IncrementEightBit := by
  intro o s
  dsimp only
  rw [exec_inc, incR8_eq, incFlags_eq_spec, ← add_one_eq_ofNat]
  exact ⟨encode_inc o, finish_setFlags_writeR8_readR8 _ _ o _ s⟩

/-- Settles O26. -/
theorem decrementEightBit : Obligations.DecrementEightBit := by
  intro o s
  dsimp only
  rw [exec_dec, decR8_eq, decFlags_eq_spec, ← byte_sub_one_eq_ofInt]
  exact ⟨encode_dec o, finish_setFlags_writeR8_readR8 _ _ o _ s⟩

/-- Settles O29. -/
theorem complementAndCarryFlagInstructions : Obligations.ComplementAndCarryFlagInstructions := by
  intro s
  have hnot : ~~~s.rf.a = BitVec.ofNat 8 (255 - s.rf.a.toNat) := by bv_omega
  rw [← hnot]
  exact ⟨⟨rfl, rfl⟩, ⟨rfl, rfl⟩, ⟨rfl, rfl⟩⟩

/-! DAA (R194). -/
section
variable (a : Byte) (f : Flags)

theorem daaLow_iff : daaLow a f = true ↔ f.hf = true ∨ (f.n = false ∧ a.toNat % 0x10 > 0x09) := by
  simp [daaLow]

theorem daaHigh_iff : daaHigh a f = true ↔ f.cf = true ∨ (f.n = false ∧ a.toNat > 0x99) := by
  simp [daaHigh]

/-- The two corrections share no bit, so they add up. -/
theorem daaCorrection_toNat : (daaCorrection a f).toNat =
    (if daaLow a f then 0x06 else 0x00) + (if daaHigh a f then 0x60 else 0x00) := by
  rw [daaCorrection]
  cases daaLow a f <;> cases daaHigh a f <;> rfl

theorem daaCorr_eq : Spec.daaCorr a.toNat f = ((daaCorrection a f).toNat, daaHigh a f) := by
  rw [Spec.daaCorr, and_0x0F]
  simp only [← daaLow_iff, ← daaHigh_iff]
  rw [daaCorrection_toNat]
  cases hhigh : daaHigh a f with
  | false =>
    have hcf : f.cf = false := (Bool.or_eq_false_iff.1 hhigh).1
    rw [hcf]
    cases daaLow a f <;> rfl
  | true => cases daaLow a f <;> rfl

theorem daaResult_eq : daaResult a f = BitVec.ofInt 8
    (if f.n = false then (a.toNat : Int) + (daaCorrection a f).toNat else (a.toNat : Int) - (daaCorrection a f).toNat) := by
  cases hn : f.n <;> simp [daaResult, hn, BitVec.ofInt_add, sub_eq_ofInt]

end

theorem daaA_eq_spec (s : State) : daaA s = { s with rf := Spec.daa s.rf } := by
  rw [daaA, daaFlags, daaResult_eq]
  simp only [Spec.daa, daaCorr_eq, ofInt_byte_eq_zero_iff]
  rfl

/-- Settles O27. -/
theorem decimalAdjust : Obligations.DecimalAdjust := fun s => ⟨rfl, congrArg (finish 4) (daaA_eq_spec s)⟩

/-! DAA on the sum and the difference of two-digit decimal values (R181, R183, R194). -/

theorem bcd_toNat {n : Nat} (h : n < 100) : (Spec.bcd n).toNat = n / 10 * 16 + n % 10 := by
  rw [Spec.bcd, BitVec.toNat_ofNat]
  omega

section
variable {m n : Nat} (hm : m < 100) (hn : n < 100)
include hm hn

theorem addResult_bcd_toNat : (addResult (Spec.bcd m) (Spec.bcd n) 0).toNat =
    (m / 10 * 16 + m % 10 + (n / 10 * 16 + n % 10)) % 256 := by
  rw [addResult, BitVec.toNat_ofNat, bcd_toNat hm, bcd_toNat hn, Nat.add_zero]

theorem subResult_bcd_toNat : (subResult (Spec.bcd m) (Spec.bcd n) 0).toNat =
    (256 + (m / 10 * 16 + m % 10) - (n / 10 * 16 + n % 10)) % 256 := by
  rw [subResult, BitVec.toNat_ofInt, bcd_toNat hm, bcd_toNat hn]
  omega

/-- After ADD, the low digit is corrected where the low digits carry in decimal: the sum of two of them is above 9. -/
theorem daaLow_add_bcd : daaLow (addResult (Spec.bcd m) (Spec.bcd n) 0) (addFlags (Spec.bcd m) (Spec.bcd n) 0) =
    decide (10 ≤ m % 10 + n % 10) := by
  rw [Bool.eq_iff_iff]
  simp only [daaLow_iff, addFlags, hasHalfCarry8, addResult_bcd_toNat hm hn, bcd_toNat hm, bcd_toNat hn,
    decide_eq_true_eq, true_and]
  omega

/-- After ADD, the high digit is corrected where the decimal sum needs a third digit: the packed sum is above 0x99. -/
theorem daaHigh_add_bcd : daaHigh (addResult (Spec.bcd m) (Spec.bcd n) 0) (addFlags (Spec.bcd m) (Spec.bcd n) 0) =
    decide (100 ≤ m + n) := by
  have hpacked : 100 ≤ m + n ↔ 0x99 < m / 10 * 16 + m % 10 + (n / 10 * 16 + n % 10) := by omega
  rw [Bool.eq_iff_iff]
  simp only [daaHigh_iff, addFlags, hasCarry8, addResult_bcd_toNat hm hn, bcd_toNat hm, bcd_toNat hn,
    decide_eq_true_eq, true_and, hpacked]
  omega

/-- After SUB, the low digit is corrected where the low digits borrow. -/
theorem daaLow_sub_bcd : daaLow (subResult (Spec.bcd m) (Spec.bcd n) 0) (subFlags (Spec.bcd m) (Spec.bcd n) 0) =
    decide (m % 10 < n % 10) := by
  rw [Bool.eq_iff_iff]
  simp only [daaLow_iff, subFlags, hasHalfBorrow8, bcd_toNat hm, bcd_toNat hn, decide_eq_true_eq, Bool.true_eq_false,
    false_and, or_false]
  omega

/-- After SUB, the high digit is corrected where the difference is negative. -/
theorem daaHigh_sub_bcd : daaHigh (subResult (Spec.bcd m) (Spec.bcd n) 0) (subFlags (Spec.bcd m) (Spec.bcd n) 0) =
    decide (m < n) := by
  rw [Bool.eq_iff_iff]
  simp only [daaHigh_iff, subFlags, hasBorrow8, bcd_toNat hm, bcd_toNat hn, decide_eq_true_eq, Bool.true_eq_false,
    false_and, or_false]
  omega

/-- The corrections move the carries from sixteens to tens: 0x06 that of the low digit, 0x60 that of the high one. -/
theorem daaResult_add_bcd :
    daaResult (addResult (Spec.bcd m) (Spec.bcd n) 0) (addFlags (Spec.bcd m) (Spec.bcd n) 0) =
      Spec.bcd ((m + n) % 100) := by
  have hlow : (m + n) % 100 % 10 = (m % 10 + n % 10) % 10 := by omega
  apply BitVec.eq_of_toNat_eq
  rw [daaResult, if_neg (by simp [addFlags]), BitVec.toNat_add, daaCorrection_toNat, daaLow_add_bcd hm hn,
    daaHigh_add_bcd hm hn, addResult_bcd_toNat hm hn, bcd_toNat (Nat.mod_lt _ (by decide))]
  simp only [decide_eq_true_eq]
  split_ifs <;> omega

/-- The corrections move the borrows from sixteens to tens. -/
theorem daaResult_sub_bcd :
    daaResult (subResult (Spec.bcd m) (Spec.bcd n) 0) (subFlags (Spec.bcd m) (Spec.bcd n) 0) =
      Spec.bcd ((m + 100 - n) % 100) := by
  have hlow : (m + 100 - n) % 100 % 10 = (m % 10 + 10 - n % 10) % 10 := by omega
  apply BitVec.eq_of_toNat_eq
  rw [daaResult, if_pos (by simp [subFlags]), BitVec.toNat_sub, daaCorrection_toNat, daaLow_sub_bcd hm hn,
    daaHigh_sub_bcd hm hn, subResult_bcd_toNat hm hn, bcd_toNat (Nat.mod_lt _ (by decide))]
  simp only [decide_eq_true_eq]
  split_ifs <;> omega

end

/-- Settles O28: DAA corrects the sum and the difference of packed values, and its carry is that of the high digit. -/
theorem decimalAdjustGivesDecimalSums : Obligations.DecimalAdjustGivesDecimalSums := by
  intro m n s hm hn ha
  refine ⟨⟨_, rfl, ?_, ?_⟩, ⟨_, rfl, ?_, ?_⟩⟩
  · rw [← daaResult_add_bcd hm hn, ← ha]; rfl
  · rw [← daaHigh_add_bcd hm hn, ← ha]; rfl
  · rw [← daaResult_sub_bcd hm hn, ← ha]; rfl
  · rw [← daaHigh_sub_bcd hm hn, ← ha]; rfl

end Sys2Proof.Machine
end

section
/-! SUPPORT. 16-bit arithmetic: the operands, sums and flags in exact arithmetic (44_alu16). -/
namespace Sys2Proof.Machine

/-! The encodings of the 16-bit arithmetic families (R105, R109). -/

theorem encode_incRp (p : Rp) : encode (Family.incRp p) = [BitVec.ofNat 8 (0x03 + 16 * p.code)] := by
  cases p <;> rfl
theorem encode_decRp (p : Rp) : encode (Family.decRp p) = [BitVec.ofNat 8 (0x0B + 16 * p.code)] := by
  cases p <;> rfl
theorem encode_addHl (p : Rp) : encode (Family.addHl p) = [BitVec.ofNat 8 (0x09 + 16 * p.code)] := by
  cases p <;> rfl

/-! Operands, sums and flags in exact arithmetic (R32, R105). -/

theorem and_0x0FFF (n : Nat) : n &&& 0x0FFF = n % 0x1000 := Nat.and_two_pow_sub_one_eq_mod n 12

theorem readRp_toNat (p : Rp) (s : State) : (readRp p s).toNat = Spec.rp p s.rf := by
  cases p with
  | sp => rfl
  | _ => exact mkWord_toNat _ _

theorem word_sub_one_toNat (v : Word) : (v - 1).toNat = (v.toNat + 65535) % 65536 := by
  rw [word_sub_one_eq, BitVec.toNat_ofNat]

theorem add16Result_toNat (h v : Word) : (add16Result h v).toNat = (h.toNat + v.toNat) % 65536 :=
  BitVec.toNat_ofNat _ 16

theorem add16Flags_eq_spec (h v : Word) (f : Flags) : add16Flags h v f =
    { z := f.z, n := false, hf := (h.toNat &&& 0x0FFF) + (v.toNat &&& 0x0FFF) > 0x0FFF
      cf := h.toNat + v.toNat > 0xFFFF } := by
  rw [and_0x0FFF, and_0x0FFF]
  rfl

/-- HL is read as the operand HL is, before the sum is written to it (R202). -/
theorem addHl_eq (p : Rp) (s : State) : addHl p s =
    setFlags (add16Flags (readRp .hl s) (readRp p s) s.rf.f)
      (writePair .hl (add16Result (readRp .hl s) (readRp p s)) s) := rfl

/-- The sum and its flags are those of the values before the write, also where the operand is HL (R202). -/
theorem addHl_eq_spec (p : Rp) (s : State) : addHl p s = { s with
    rf := { Spec.setPair .hl ((Spec.rp .hl s.rf + Spec.rp p s.rf) % 65536) s.rf with
      f := { z := s.rf.f.z, n := false
             hf := (Spec.rp .hl s.rf &&& 0x0FFF) + (Spec.rp p s.rf &&& 0x0FFF) > 0x0FFF
             cf := Spec.rp .hl s.rf + Spec.rp p s.rf > 0xFFFF } } } := by
  rw [addHl_eq, add16Flags_eq_spec, writePair, setPair_eq_spec, add16Result_toNat, readRp_toNat, readRp_toNat]
  rfl

/-- Settles O30: INC and DEC are the operand's word plus or minus 1, and ADD HL takes both words before it writes. -/
theorem sixteenBitArithmetic : Obligations.SixteenBitArithmetic := by
  refine fun p s => ⟨⟨encode_incRp p, ?_⟩, ⟨encode_decRp p, ?_⟩, encode_addHl p, ?_⟩
  · rw [exec_incRp, writeRp_eq_spec, BitVec.toNat_add, readRp_toNat]
    rfl
  · rw [exec_decRp, writeRp_eq_spec, word_sub_one_toNat, readRp_toNat]
    rfl
  · rw [exec_addHl, addHl_eq_spec]
    rfl

end Sys2Proof.Machine
end

section
/-! SUPPORT. Rotates, shifts and bit operations: results and carries in exact arithmetic, the extended and accumulator forms,
and repeated SLA (45_rotate_shift_bit). -/
namespace Sys2Proof.Machine

/-! The encodings of the extended families (R110). -/

theorem encode_shift (op : ShiftOp) (o : R8) :
    encode (Family.shift op o) = [0xCB#8, BitVec.ofNat 8 (8 * op.code + o.code)] := by
  cases op <;> cases o <;> rfl
theorem encode_bit (b : Fin 8) (o : R8) :
    encode (Family.bit b o) = [0xCB#8, BitVec.ofNat 8 (0x40 + 8 * b.val + o.code)] := by
  fin_cases b <;> cases o <;> rfl
theorem encode_res (b : Fin 8) (o : R8) :
    encode (Family.res b o) = [0xCB#8, BitVec.ofNat 8 (0x80 + 8 * b.val + o.code)] := by
  fin_cases b <;> cases o <;> rfl
theorem encode_set (b : Fin 8) (o : R8) :
    encode (Family.set b o) = [0xCB#8, BitVec.ofNat 8 (0xC0 + 8 * b.val + o.code)] := by
  fin_cases b <;> cases o <;> rfl

/-! Results and carries in exact arithmetic (R213 to R224). -/

theorem testBit_toNat (v : Byte) (b : Nat) : (testBit v b).toNat = v.toNat / 2 ^ b % 2 := Nat.toNat_testBit _ _

theorem testBit_zero_eq (v : Byte) : testBit v 0 = decide (v.toNat % 2 = 1) := by
  rw [testBit_eq, pow_zero, Nat.div_one]

/-- Bit 7 is the whole quotient by 128. -/
theorem testBit_seven_eq (v : Byte) : testBit v 7 = decide (v.toNat / 128 = 1) := by
  rw [testBit_eq, decide_eq_decide]
  omega

theorem bitByte_toNat (b : Bool) : (bitByte b).toNat = b.toNat := by cases b <;> rfl

/-- A bit entering at bit 0 is added: the shift leaves a 0 there. -/
theorem shiftLeft_or_bitByte_toNat (v : Byte) (b : Bool) :
    ((v <<< 1) ||| bitByte b).toNat = (v.toNat * 2 + b.toNat) % 256 := by
  have hb : b.toNat < 2 ^ 1 := Bool.toNat_lt b
  have hmod : b.toNat % 2 ^ 8 = b.toNat := Nat.mod_eq_of_lt (hb.trans (by decide))
  calc ((v <<< 1) ||| bitByte b).toNat
    _ = (v.toNat <<< 1 ||| b.toNat) % 2 ^ 8 := by
      rw [BitVec.toNat_or, BitVec.toNat_shiftLeft, bitByte_toNat, Nat.or_mod_two_pow, hmod]
    _ = (v.toNat * 2 + b.toNat) % 2 ^ 8 := by rw [← Nat.shiftLeft_add_eq_or_of_lt hb, Nat.shiftLeft_eq, pow_one]

/-- A bit entering at bit 7 is added: the shift leaves a 0 there. -/
theorem ushiftRight_or_bitByte_toNat (v : Byte) (b : Bool) :
    ((v >>> 1) ||| (bitByte b <<< 7)).toNat = v.toNat / 2 + b.toNat * 128 := by
  have hv : v.toNat / 2 < 2 ^ 7 := by omega
  have hb : (bitByte b <<< 7).toNat = b.toNat <<< 7 := by cases b <;> rfl
  rw [BitVec.toNat_or, BitVec.toNat_ushiftRight, hb, Nat.shiftRight_eq_div_pow, Nat.lor_comm,
    ← Nat.shiftLeft_add_eq_or_of_lt hv, Nat.shiftLeft_eq, Nat.add_comm]

/-- The result is the rule's, operation by operation: the bit that enters is the one rotated out, Cf, or 0. -/
theorem shiftMeaning_result_toNat (op : ShiftOp) (v : Byte) (f : Flags) :
    (shiftMeaning op v f).1.toNat = (Spec.shift op v.toNat f.cf.toNat).1 := by
  cases op with
  | rlc =>
    have hbit : (testBit v 7).toNat = v.toNat / 128 := by rw [testBit_toNat]; omega
    exact (shiftLeft_or_bitByte_toNat v _).trans (by rw [hbit]; rfl)
  | rrc =>
    have hbit : (testBit v 0).toNat = v.toNat % 2 := by rw [testBit_toNat, pow_zero, Nat.div_one]
    exact (ushiftRight_or_bitByte_toNat v _).trans (by rw [hbit]; rfl)
  | rl => exact shiftLeft_or_bitByte_toNat v f.cf
  | rr => exact ushiftRight_or_bitByte_toNat v f.cf
  | sla => exact (congrArg BitVec.toNat (shiftLeft_eq v)).trans (BitVec.toNat_ofNat _ _)
  | sra | srl => exact BitVec.toNat_ushiftRight v 1
  | swap =>
    have hlt : v.toNat % 16 * 16 + v.toNat / 16 < 2 ^ 8 := by omega
    exact (congrArg BitVec.toNat (swapNibbles_eq v)).trans ((BitVec.toNat_ofNat _ _).trans (Nat.mod_eq_of_lt hlt))

theorem shiftMeaning_carry (op : ShiftOp) (v : Byte) (f : Flags) :
    (shiftMeaning op v f).2 = (Spec.shift op v.toNat f.cf.toNat).2 := by
  cases op with
  | rlc | rl | sla => exact testBit_seven_eq v
  | rrc | rr | sra | srl => exact testBit_zero_eq v
  | swap => rfl

/-- The exact result fits a byte, so narrowing it loses nothing. -/
theorem shiftMeaning_eq_spec (op : ShiftOp) (v : Byte) (f : Flags) :
    shiftMeaning op v f =
      (BitVec.ofNat 8 (Spec.shift op v.toNat f.cf.toNat).1, (Spec.shift op v.toNat f.cf.toNat).2) := by
  rw [← shiftMeaning_result_toNat, ← shiftMeaning_carry, BitVec.ofNat_toNat, BitVec.setWidth_eq]

theorem shiftFlags_eq (r : Byte) (c : Bool) : shiftFlags r c = { z := r.toNat = 0, n := false, hf := false, cf := c } := by
  simp [shiftFlags, ← BitVec.toNat_inj]

/-! The extended forms (R211, R212, R217 to R224). -/

theorem shiftR8_eq (op : Byte → Flags → Byte × Bool) (o : R8) (s : State) : shiftR8 op o s =
    setFlags (shiftFlags (op (readR8 o s).1 s.rf.f).1 (op (readR8 o s).1 s.rf.f).2)
      (writeR8 o (op (readR8 o s).1 s.rf.f).1 (readR8 o s).2) := rfl

theorem shiftForms (op : ShiftOp) : Spec.ShiftForms op := by
  refine fun o s => ⟨encode_shift op o, ?_⟩
  rw [exec_shift, shiftR8_eq, shiftFlags_eq, shiftMeaning_result_toNat, shiftMeaning_eq_spec]
  exact finish_setFlags_writeR8_readR8 _ _ o _ s

/-- Settles O32. -/
theorem extendedRotates : Obligations.ExtendedRotates :=
  ⟨shiftForms .rlc, shiftForms .rrc, shiftForms .rl, shiftForms .rr⟩

/-- Settles O33. -/
theorem extendedShiftsAndSwap : Obligations.ExtendedShiftsAndSwap :=
  ⟨shiftForms .sla, shiftForms .sra, shiftForms .swap, shiftForms .srl⟩

/-! The accumulator rotates (R213 to R216). -/

theorem rotateA_eq_spec (op : ShiftOp) (s : State) : rotateA (shiftMeaning op) s = { s with
    rf := { s.rf with
      a := BitVec.ofNat 8 (Spec.shift op s.rf.a.toNat s.rf.f.cf.toNat).1
      f := { z := false, n := false, hf := false, cf := (Spec.shift op s.rf.a.toNat s.rf.f.cf.toNat).2 } } } := by
  rw [rotateA, shiftMeaning_eq_spec]
  rfl

/-- Settles O31: each is the extended operation on A, with Z = 0. -/
theorem accumulatorRotates : Obligations.AccumulatorRotates :=
  ⟨fun s => ⟨rfl, congrArg (finish 4) (rotateA_eq_spec .rlc s)⟩,
    fun s => ⟨rfl, congrArg (finish 4) (rotateA_eq_spec .rrc s)⟩,
    fun s => ⟨rfl, congrArg (finish 4) (rotateA_eq_spec .rl s)⟩,
    fun s => ⟨rfl, congrArg (finish 4) (rotateA_eq_spec .rr s)⟩⟩

/-! BIT, RES and SET (R225 to R227). -/

/-- Z of BIT: a bit is not set exactly where the quotient is even. -/
theorem not_testBit_eq (v : Byte) (b : Nat) : (!testBit v b) = decide (v.toNat / 2 ^ b % 2 = 0) := by
  rw [testBit_eq, ← decide_not, decide_eq_decide]
  exact Nat.mod_two_ne_one

theorem bitTest_eq (b : Nat) (o : R8) (s : State) :
    bitTest b o s = setFlags (bitFlags (readR8 o s).1 b s.rf.f) (readR8 o s).2 := rfl

/-- A bit update of an r8 operand charges nothing of its own and writes no flag. -/
theorem finish_bitUpdate (op : Byte → Nat → Byte) (n b : Nat) (o : R8) (s : State) : finish n (bitUpdate op b o s) =
    .next { writeR8 o (op (readR8 o s).1 b) (readR8 o s).2 with cycles := s.cycles + n } := by
  rw [bitUpdate, finish, charge, writeR8_cycles, readR8_cycles]

/-- Settles O35. -/
theorem bitResetAndSet : Obligations.BitResetAndSet := fun b o s =>
  ⟨⟨encode_res b o, resetBit (readR8 o s).1 b, fun _ hk => getLsbD_resetBit _ hk,
      (exec_res s b o).trans (finish_bitUpdate resetBit _ b o s)⟩,
    encode_set b o, setBit (readR8 o s).1 b, fun _ hk => getLsbD_setBit _ hk,
    (exec_set s b o).trans (finish_bitUpdate setBit _ b o s)⟩

/-! SLA of a register, repeated (R221). -/

/-- The state with register `r` holding `v`, the flags of a shift that left `v` and the carry `c`, and `n` more cycles. -/
def withShifted (r : Reg8) (v : Byte) (c : Bool) (n : Nat) (s : State) : State :=
  { s with rf := { s.rf.set r v with f := shiftFlags v c }, cycles := s.cycles + n }

/-- A later shift of the register overwrites what an earlier one left, and the cycles add up. -/
theorem withShifted_withShifted (r : Reg8) (v w : Byte) (c d : Bool) (m n : Nat) (s : State) :
    withShifted r w d n (withShifted r v c m s) = withShifted r w d (n + m) s := by
  cases r <;> simp [withShifted, RegFile.set, Nat.add_comm n, Nat.add_assoc]

theorem withShifted_get (r : Reg8) (v : Byte) (c : Bool) (n : Nat) (s : State) :
    (withShifted r v c n s).rf.get r = v := by
  cases r <;> rfl

theorem exec_sla_register (r : Reg8) (s : State) : exec (Family.shift .sla r.toR8) s =
    .next (withShifted r (s.rf.get r <<< 1) ((s.rf.get r).getMsbD 0) 8 s) := by
  cases r <;> rfl

theorem execAll_cons {i : Instr} {s t : State} (h : exec i s = .next t) (is : List Instr) :
    execAll (i :: is) s = execAll is t := by
  rw [execAll, h]

/-- After n + 1 shifts the register is shifted by n + 1 places and Cf is bit n of the start value, from the top. -/
theorem execAll_sla_register (r : Reg8) (n : Nat) (s : State) :
    execAll (List.replicate (n + 1) (Family.shift .sla r.toR8)) s =
      .next (withShifted r (s.rf.get r <<< (n + 1)) ((s.rf.get r).getMsbD n) (8 * (n + 1)) s) := by
  induction n generalizing s with
  | zero => exact execAll_cons (exec_sla_register r s) []
  | succ n ih =>
    rw [List.replicate_succ, execAll_cons (exec_sla_register r s), ih, withShifted_withShifted, withShifted_get,
      ← BitVec.shiftLeft_add, BitVec.getMsbD_shiftLeft, Nat.add_comm 1]
    rfl

/-- Settles O36: eight shifts leave no bit of the start value, and the last one shifts out its bit 0. -/
theorem eightShiftsLeftClearARegister : Obligations.EightShiftsLeftClearARegister := by
  refine fun r s => ⟨_, execAll_sla_register r 7 s, ?_⟩
  have hzero : s.rf.get r <<< (7 + 1) = 0x00#8 := BitVec.shiftLeft_eq_zero (le_refl 8)
  rw [hzero]
  rfl

end Sys2Proof.Machine

namespace Sys2Proof
open Machine

/-- Settles O34. (`Machine.bitTest` is the model's operation.) -/
theorem bitTest : Obligations.BitTest := by
  refine fun b o s => ⟨encode_bit b o, ?_⟩
  rw [exec_bit, bitTest_eq, bitFlags, not_testBit_eq, finish, charge, setFlags_cycles, readR8_cycles, setFlags, readR8_rf]

end Sys2Proof
end

section
/-! SUPPORT. Control transfer: the encodings, the conditions, and what a jump, a call and a return leave at their cost
(46_control). -/
namespace Sys2Proof.Machine

/-! The encodings of the conditional families and of RST (R109). -/

theorem encode_jpCc (cc : Cond) (a : Word) :
    encode (Family.jpCc cc a) = [BitVec.ofNat 8 (0xC2 + 8 * cc.code), loByte a, hiByte a] := by
  cases cc <;> rfl
theorem encode_jrCc (cc : Cond) (e : Byte) : encode (Family.jrCc cc e) = [BitVec.ofNat 8 (0x20 + 8 * cc.code), e] := by
  cases cc <;> rfl
theorem encode_callCc (cc : Cond) (a : Word) :
    encode (Family.callCc cc a) = [BitVec.ofNat 8 (0xC4 + 8 * cc.code), loByte a, hiByte a] := by
  cases cc <;> rfl
theorem encode_retCc (cc : Cond) : encode (Family.retCc cc) = [BitVec.ofNat 8 (0xC0 + 8 * cc.code)] := by
  cases cc <;> rfl
theorem encode_rst (t : Fin 8) : encode (Family.rst t) = [BitVec.ofNat 8 (0xC7 + 8 * t.val)] := by
  fin_cases t <;> rfl

/-! The targets and the conditions, as the rules write them (R14, R243). -/

/-- The target of a relative jump in exact arithmetic: the sum that R173 forms with SP, here with PC. -/
theorem add_sext8_eq_ofInt (v : Word) (e : Byte) : v + sext8 e = BitVec.ofInt 16 ((v.toNat : Int) + e.toInt) :=
  spPlus_eq_spec v e

theorem word_sub_two_eq_ofInt (v : Word) : v - 2 = BitVec.ofInt 16 ((v.toNat : Int) - 2) := sub_eq_ofInt v 2

theorem condHolds_eq_spec (cc : Cond) (f : Flags) : condHolds cc f = Spec.cond cc f := by
  cases cc <;> rfl

/-! Each transfer, finished at its cost. -/
section
variable (n : Nat) (s : State)

theorem finish_setPc (a : Word) :
    finish n (setPc a s) = .next { s with rf := { s.rf with pc := a }, cycles := s.cycles + n } := rfl

/-- The push writes memory and SP only, and charges nothing of its own. -/
theorem charge_callTo (a : Word) : charge n (callTo a s) = { Spec.push s.rf.pc s with
    rf := { s.rf with sp := BitVec.ofInt 16 ((s.rf.sp.toNat : Int) - 2), pc := a }, cycles := s.cycles + n } := by
  rw [charge, callTo_cycles, callTo, setPc, push16_rf, push16_eq_spec, word_sub_two_eq_ofInt]

/-- PC takes the word popped. -/
theorem charge_popPc : charge n (popPc s) = { Spec.afterPop s with
    rf := { (Spec.afterPop s).rf with pc := BitVec.ofNat 16 (Spec.popped s) }, cycles := s.cycles + n } := by
  rw [← pop16_fst_toNat, BitVec.ofNat_toNat, BitVec.setWidth_eq]
  rfl

/-- A conditional transfer: taken, at the base and the extra cost; not taken, only the base cost is charged (R138). -/
theorem finishCond_ite (extra : Nat) (cc : Cond) (t : State) :
    finishCond n extra (if condHolds cc s.rf.f then (true, t) else (false, s)) =
      .next (if Spec.cond cc s.rf.f = true then charge (n + extra) t else charge n s) := by
  rw [condHolds_eq_spec]
  cases Spec.cond cc s.rf.f <;> rfl

end

/-- Settles O37: HL is the word of its two registers, and the JR target is the sum mod 2^16. -/
theorem unconditionalJumps : Obligations.UnconditionalJumps := by
  intro s
  simp only [← mkWord_eq, ← add_sext8_eq_ofInt, ← hiByte_eq, ← loByte_eq]
  exact ⟨fun a => ⟨rfl, finish_setPc 16 s a⟩, ⟨rfl, finish_setPc 4 s (s.rf.pair .hl)⟩,
    fun e => ⟨rfl, finish_setPc 12 s (s.rf.pc + sext8 e)⟩⟩

/-- Settles O38. -/
theorem conditionalJumps : Obligations.ConditionalJumps := by
  intro cc s
  simp only [← add_sext8_eq_ofInt, ← hiByte_eq, ← loByte_eq]
  exact ⟨fun a => ⟨encode_jpCc cc a, (exec_jpCc s cc a).trans (finishCond_ite 12 s 4 cc _)⟩,
    fun e => ⟨encode_jrCc cc e, (exec_jrCc s cc e).trans (finishCond_ite 8 s 4 cc _)⟩⟩

/-- Settles O39: RST is a call of a fixed target. -/
theorem callsAndRestarts : Obligations.CallsAndRestarts := by
  intro s called
  have hcalled (n : Nat) (a : Word) : finish n (callTo a s) = called a n := congrArg _ (charge_callTo n s a)
  refine ⟨fun a => ⟨?_, hcalled 24 a⟩, fun t => ⟨encode_rst t, (exec_rst s t).trans (hcalled 16 _)⟩⟩
  rw [← hiByte_eq, ← loByte_eq]
  rfl

/-- Settles O40. -/
theorem conditionalCalls : Obligations.ConditionalCalls := by
  intro cc a s
  rw [exec_callCc, callIf, finishCond_ite, charge_callTo, ← hiByte_eq, ← loByte_eq]
  exact ⟨encode_callCc cc a, rfl⟩

/-- Settles O41: RETI is RET with IME set after it. -/
theorem returns : Obligations.Returns := fun s =>
  ⟨⟨rfl, congrArg Host.Outcome.next (charge_popPc 16 s)⟩,
    rfl, congrArg (fun t => Host.Outcome.next (setIme true t)) (charge_popPc 16 s)⟩

/-- Settles O42. -/
theorem conditionalReturns : Obligations.ConditionalReturns := by
  intro cc s
  rw [exec_retCc, returnIf, finishCond_ite, charge_popPc]
  exact ⟨encode_retCc cc, rfl⟩

end Sys2Proof.Machine
end

section
/-! SUPPORT. The system instructions: what ends a step with no effect, with the halt flag set, or with IME written
(47_system). -/
namespace Sys2Proof.Machine

/-! Each operation, finished at its cost. -/
section
variable (n : Nat) (s : State)

theorem finish_eq_next : finish n s = .next { s with cycles := s.cycles + n } := rfl

theorem finish_halt : finish n (halt s) = .next { s with halted := true, cycles := s.cycles + n } := rfl

theorem finish_setIme (v : Bool) : finish n (setIme v s) = .next { s with ime := v, cycles := s.cycles + n } := rfl

end

/-- Settles O43: HALT and STOP are one operation, as are DI and EI with the value of IME. -/
theorem systemInstructions : Obligations.SystemInstructions := fun s =>
  ⟨⟨rfl, finish_eq_next 4 s⟩,
    ⟨rfl, finish_halt 4 s⟩,
    fun _ => ⟨rfl, finish_halt 4 s⟩,
    ⟨rfl, finish_setIme 4 s false⟩,
    ⟨rfl, finish_setIme 4 s true⟩⟩

end Sys2Proof.Machine
end

section
/-! SUPPORT. No instruction faults or is refused, and only the stores reach the RAM bytes or report a rejected write
(60_exceptions). -/
namespace Sys2Proof

/-! The families that write the bus, at all of their operands or at (HL) only (R271). -/

@[simp] theorem storesMemory_ldHlR (r : Reg8) : (Family.ldHlR r).storesMemory = true := by cases r <;> rfl
@[simp] theorem storesMemory_push (p : Pair) : (Family.push p).storesMemory = true := by cases p <;> rfl
@[simp] theorem storesMemory_rst (t : Fin 8) : (Family.rst t).storesMemory = true := by fin_cases t <;> rfl
@[simp] theorem storesMemory_callCc (cc : Cond) (a : Word) : (Family.callCc cc a).storesMemory = true := by
  cases cc <;> rfl
@[simp] theorem storesMemory_inc (o : R8) : (Family.inc o).storesMemory = decide (o = .hl) := by cases o <;> rfl
@[simp] theorem storesMemory_dec (o : R8) : (Family.dec o).storesMemory = decide (o = .hl) := by cases o <;> rfl
@[simp] theorem storesMemory_shift (op : ShiftOp) (o : R8) :
    (Family.shift op o).storesMemory = decide (o = .hl) := by
  cases op <;> cases o <;> rfl
@[simp] theorem storesMemory_res (b : Fin 8) (o : R8) : (Family.res b o).storesMemory = decide (o = .hl) := by
  fin_cases b <;> cases o <;> rfl
@[simp] theorem storesMemory_set (b : Fin 8) (o : R8) : (Family.set b o).storesMemory = decide (o = .hl) := by
  fin_cases b <;> cases o <;> rfl

end Sys2Proof

namespace Sys2Proof.Machine

/-! The RAM bytes and the events after each shared operation that writes no memory. -/
section
variable (s : State)

@[simp] theorem readR8_ram (o : R8) : (readR8 o s).2.bus.ram = s.bus.ram := by
  cases o with
  | hl => exact touch_ram _ _
  | _ => rfl

/-- The write-back of a read-modify-write whose operand is not (HL) is to a register (R144). -/
theorem writeBack_ram_events {o : R8} (h : o ≠ .hl) (v : Byte) :
    (writeR8 o v (readR8 o s).2).bus.ram = s.bus.ram ∧ (writeR8 o v (readR8 o s).2).events = s.events := by
  cases o with
  | hl => exact absurd rfl h
  | _ => exact ⟨rfl, rfl⟩

@[simp] theorem writeRp_bus (p : Rp) (v : Word) : (writeRp p v s).bus = s.bus := by cases p <;> rfl
@[simp] theorem writeRp_events (p : Rp) (v : Word) : (writeRp p v s).events = s.events := by cases p <;> rfl
@[simp] theorem aluMeaning_bus (op : AluOp) (v : Byte) : (aluMeaning op v s).bus = s.bus := by cases op <;> rfl
@[simp] theorem aluMeaning_events (op : AluOp) (v : Byte) : (aluMeaning op v s).events = s.events := by
  cases op <;> rfl
@[simp] theorem pop16_ram : (pop16 s).2.bus.ram = s.bus.ram := by simp [pop16_eq, readWord_eq]
@[simp] theorem popPc_ram : (popPc s).bus.ram = s.bus.ram := pop16_ram s
@[simp] theorem jumpIf_bus (cc : Cond) (a : Word) : (jumpIf cc a s).2.bus = s.bus := by
  unfold jumpIf; split <;> rfl
@[simp] theorem jumpIf_events (cc : Cond) (a : Word) : (jumpIf cc a s).2.events = s.events := by
  unfold jumpIf; split <;> rfl
@[simp] theorem returnIf_ram (cc : Cond) : (returnIf cc s).2.bus.ram = s.bus.ram := by
  unfold returnIf; split <;> simp
@[simp] theorem returnIf_events (cc : Cond) : (returnIf cc s).2.events = s.events := by
  unfold returnIf; split <;> rfl

end

/-- exec of `i` answers a next state with the same RAM bytes and no rejected write reported since (R271). -/
def KeepsMemory (i : Instr) (s : State) : Prop :=
  ∃ t, exec i s = .next t ∧ t.bus.ram = s.bus.ram ∧
    ∀ (a : Word) (v : Byte), Event.romWriteRejected a v ∈ t.events → Event.romWriteRejected a v ∈ s.events

section
variable {i : Instr} {s u : State} {n : Nat}

/-- An operation that leaves the RAM bytes and the events alone, at its cost. -/
theorem keepsMemory_of (hexec : exec i s = .next (charge n u)) (hkept : u.bus.ram = s.bus.ram ∧ u.events = s.events) :
    KeepsMemory i s :=
  ⟨_, hexec, hkept.1, fun _ _ h => hkept.2 ▸ h⟩

end

/-- Only the stores write memory: form by form, the form stores, or what exec answers leaves the RAM bytes and the events
alone. The read-modify-writes are no stores at a register, and an undefined opcode reports itself. -/
theorem keepsMemory {i : Instr} (h : i.storesMemory = false) (s : State) : KeepsMemory i s := by
  cases inFamily i with
  | ldMemHlD8 | ldMemBcA | ldMemDeA | ldMemCA | ldhMemA8A | ldMemA16A | ldMemHlIncA | ldMemHlDecA | ldMemA16Sp | call
  | prefixCb => cases h
  | ldHlR | push | rst | callCc => simp at h
  | inc o => exact keepsMemory_of (exec_inc s o) (writeBack_ram_events s (by simpa using h) _)
  | dec o => exact keepsMemory_of (exec_dec s o) (writeBack_ram_events s (by simpa using h) _)
  | shift op o => exact keepsMemory_of (exec_shift s op o) (writeBack_ram_events s (by simpa using h) _)
  | res b o => exact keepsMemory_of (exec_res s b o) (writeBack_ram_events s (by simpa using h) _)
  | set b o => exact keepsMemory_of (exec_set s b o) (writeBack_ram_events s (by simpa using h) _)
  | undefined op => exact ⟨_, rfl, rfl, fun a v hmem => by simpa using hmem⟩
  | ldAMemBc | ldAMemDe | ldAMemC | ldhAMemA8 | ldAMemA16 | ldAMemHlInc | ldAMemHlDec =>
    exact keepsMemory_of rfl ⟨touch_ram _ _, rfl⟩
  | ldSpHl | ldHlSpE8 | addSpE8 | daa | cpl | scf | ccf | rlca | rrca | rla | rra | jp | jpHl | jr | nop | halt | stop | di
  | ei => exact keepsMemory_of rfl ⟨rfl, rfl⟩
  | ret | reti => exact keepsMemory_of rfl ⟨popPc_ram s, rfl⟩
  | ldRR dst src => exact keepsMemory_of (exec_ldRR s dst src) ⟨rfl, rfl⟩
  | ldRD8 r v => exact keepsMemory_of (exec_ldRD8 s r v) ⟨rfl, rfl⟩
  | ldRHl r => exact keepsMemory_of (exec_ldRHl s r) ⟨touch_ram _ _, rfl⟩
  | ldRpD16 p v => exact keepsMemory_of (exec_ldRpD16 s p v) (by simp)
  | pop p => exact keepsMemory_of (exec_pop s p) ⟨pop16_ram s, rfl⟩
  | alu op src => exact keepsMemory_of (exec_alu s op src) (by simp [aluFrom])
  | aluD8 op v => exact keepsMemory_of (exec_aluD8 s op v) (by simp)
  | incRp p => exact keepsMemory_of (exec_incRp s p) (by simp)
  | decRp p => exact keepsMemory_of (exec_decRp s p) (by simp)
  | addHl p => exact keepsMemory_of (exec_addHl s p) ⟨rfl, rfl⟩
  | bit b o => exact keepsMemory_of (exec_bit s b o) (by simp [bitTest])
  | jpCc cc a => exact keepsMemory_of (exec_jpCc s cc a) (by simp)
  | jrCc cc e => exact keepsMemory_of (exec_jrCc s cc e) (by simp)
  | retCc cc => exact keepsMemory_of (exec_retCc s cc) (by simp)

/-- Settles O55, from what exec of every instruction but the stores keeps. -/
theorem onlyStoresWriteMemory : Obligations.OnlyStoresWriteMemory := by
  intro i s t hstores h
  obtain ⟨_, ht, hram, hrejected⟩ := keepsMemory hstores s
  cases ht.symm.trans h
  exact ⟨hram, hrejected⟩

/-- Settles O50: the effects of exec and of step are those of a next state, which each answers. -/
theorem nothingStops : Obligations.NothingStops := by
  refine ⟨fun i s => ?_, fun s => ?_⟩
  · obtain ⟨t, ht, -⟩ := exec_effect i s
    exact ⟨t, ht⟩
  · obtain ⟨t, ht, -⟩ := step_effect s
    exact ⟨t, ht⟩

end Sys2Proof.Machine
end
